-- ==== Sys2Proof/Word.lean ====
section
/-! DEFINITION. The words the spec is written in: 16-bit command words, bytes, bit strings, layers, value types, and
the view of one bit-stream symbol. -/

namespace Sys2Proof

/-- A command word, bits 15..0: `CMDW` is 16 (00_scope R10, R13, 30_encoding R90, decision D2). -/
abbrev Word := BitVec 16

/-- One byte of a record's `data` (20_memory R63). -/
abbrev Byte := BitVec 8

/-- A bit string in stream order: the head is bit position 0 (00_scope R12). -/
abbrev Bits := List Bool

/-- The layer operand `L` (00_scope R16). -/
inductive Layer where
  | lum
  | chr
  deriving DecidableEq, Repr

/-- The value type `T` of a segment or table (00_scope R16). -/
inductive ValType where
  | dc
  | ac
  deriving DecidableEq, Repr

/-- `LUM = 0`, `CHR = 1` (00_scope R16). -/
def Layer.code : Layer → Nat
  | .lum => 0
  | .chr => 1

/-- `DC = 0`, `AC = 1` (00_scope R16). -/
def ValType.code : ValType → Nat
  | .dc => 0
  | .ac => 1

/-- What a bit-stream symbol says (30_encoding R98, R99): its table `(type, layer)`, its key `(run, size)` (`run` is 0
in a DC symbol), and `lit`, the unsigned value of its `size` literal bits. -/
structure Symbol where
  type  : ValType
  layer : Layer
  run   : Nat
  size  : Nat
  lit   : Nat
  deriving DecidableEq, Repr

end Sys2Proof
end

