-- ==== Sys2Proof/Config.lean ====
section
/-! DEFINITION. What the spec leaves to the implementation: the values of the small parameters of 00_scope R10, and the free
values. The parameters together, with their defaults, are `Machine.Params` in Machine/Params.lean. -/

namespace Sys2Proof

/-- The values of `QROUND`, the tie rule of the quantizer's rounding (00_scope R10, 41_quantizer R143). -/
inductive QRound where
  | halfEven
  | halfAway
  deriving DecidableEq, Repr

/-- The values of `BITORDER` (00_scope R10): bit `8k` of the bit sequence is the most significant bit of byte `k`, the one value
the spec names (20_memory R63), or the least significant. The second value, and that there is no third, is a DESIGN CHOICE
(log 23). -/
inductive BitOrder where
  | msbFirst
  | lsbFirst
  deriving DecidableEq, Repr

/-- What an implementation with finite registers or buffers can run out of (00_scope R10): `INTW`, the width of its integer
registers, and `SEGCAP`, the bits one segment buffer holds. -/
inductive Limit where
  | intWidth
  | segCap
  deriving DecidableEq, Repr

/-- The unspecified integer a status-port read of `DIFF` (CSR 15) returns while `VD = 0` (10_state R38,
93_implementation_defined U9: any value). FREE VALUE: it has no body. Applied to `CMDCNT` (log 8). -/
opaque Config.unwrittenDiff : Nat → Int

/-- Which of the nine fault codes an implementation reports when it runs out of a limit; the spec says that it must fault and
not with which code (93_implementation_defined U6, U17). FREE VALUE: it has no body (log 5). -/
opaque Config.limitCode : Limit → Fin 9

/-- The `ERRINFO` of that fault. FREE VALUE: it has no body. Applied to `CMDCNT` (log 5). -/
opaque Config.limitInfo : Limit → Nat → Int

end Sys2Proof
end

