-- ==== Sys2Proof/Machine/Num.lean ====
section
/-! DEFINITION. `NUM`, the exact numbers of `XB` (00_scope R10, 40_transform R130, 92_eei_decisions D6; log 1). A value is
a rational combination of the cosines the transform is made of, so every operation of the CORE on it is exact. -/

namespace Sys2Proof.Machine

/-- The real number `c0 + c1·2cos(π/16) + c2·2cos(2π/16) + … + c7·2cos(7π/16)`. All rational numbers are of this form
(`c1` to `c7` zero), and `FDCT`, `IDCT`, `QNT` and `DQT` do not lead out of it (log 1). -/
structure NUM where
  c0 : ℚ
  c1 : ℚ
  c2 : ℚ
  c3 : ℚ
  c4 : ℚ
  c5 : ℚ
  c6 : ℚ
  c7 : ℚ
  deriving DecidableEq, Repr

/-- A rational number. -/
def NUM.ofRat (q : ℚ) : NUM := ⟨q, 0, 0, 0, 0, 0, 0, 0⟩

/-- Zero. -/
def NUM.zero : NUM := NUM.ofRat 0

/-- The product with a rational. -/
def NUM.scale (q : ℚ) (x : NUM) : NUM :=
  ⟨q * x.c0, q * x.c1, q * x.c2, q * x.c3, q * x.c4, q * x.c5, q * x.c6, q * x.c7⟩

/-! The same numbers with integer coefficients: a `NUM` over a common denominator. -/

/-- `n0 + n1·2cos(π/16) + … + n7·2cos(7π/16)`, integers. -/
structure Cyc where
  n0 : Int
  n1 : Int
  n2 : Int
  n3 : Int
  n4 : Int
  n5 : Int
  n6 : Int
  n7 : Int
  deriving DecidableEq, Repr

/-- The sum. -/
def Cyc.add (x y : Cyc) : Cyc :=
  ⟨x.n0 + y.n0, x.n1 + y.n1, x.n2 + y.n2, x.n3 + y.n3, x.n4 + y.n4, x.n5 + y.n5, x.n6 + y.n6, x.n7 + y.n7⟩

/-- The product with an integer. -/
def Cyc.scale (k : Int) (x : Cyc) : Cyc :=
  ⟨k * x.n0, k * x.n1, k * x.n2, k * x.n3, k * x.n4, k * x.n5, k * x.n6, k * x.n7⟩

/-- The sum of eight terms. -/
def Cyc.sum8 (f : Fin 8 → Cyc) : Cyc :=
  ((((((((f 0).add (f 1)).add (f 2)).add (f 3)).add (f 4)).add (f 5)).add (f 6)).add (f 7))

/-- The product with `2cos(mπ/16)`, `1 ≤ m ≤ 7`: coefficient by coefficient, `2cos(a)·2cos(b) = 2cos(a+b) + 2cos(a-b)`
with `2cos((16-j)π/16) = -2cos(jπ/16)` and `2cos(8π/16) = 0`. -/
def Cyc.mulCos (m : Nat) (x : Cyc) : Cyc :=
  match m with
  | 1 => ⟨2 * x.n1, x.n0 + x.n2, x.n1 + x.n3, x.n2 + x.n4, x.n3 + x.n5, x.n4 + x.n6, x.n5 + x.n7, x.n6⟩
  | 2 => ⟨2 * x.n2, x.n1 + x.n3, x.n0 + x.n4, x.n1 + x.n5, x.n2 + x.n6, x.n3 + x.n7, x.n4, x.n5 - x.n7⟩
  | 3 => ⟨2 * x.n3, x.n2 + x.n4, x.n1 + x.n5, x.n0 + x.n6, x.n1 + x.n7, x.n2, x.n3 - x.n7, x.n4 - x.n6⟩
  | 4 => ⟨2 * x.n4, x.n3 + x.n5, x.n2 + x.n6, x.n1 + x.n7, x.n0, x.n1 - x.n7, x.n2 - x.n6, x.n3 - x.n5⟩
  | 5 => ⟨2 * x.n5, x.n4 + x.n6, x.n3 + x.n7, x.n2, x.n1 - x.n7, x.n0 - x.n6, x.n1 - x.n5, x.n2 - x.n4⟩
  | 6 => ⟨2 * x.n6, x.n5 + x.n7, x.n4, x.n3 - x.n7, x.n2 - x.n6, x.n1 - x.n5, x.n0 - x.n4, x.n1 - x.n3⟩
  | 7 => ⟨2 * x.n7, x.n6, x.n5 - x.n7, x.n4 - x.n6, x.n3 - x.n5, x.n2 - x.n4, x.n1 - x.n3, x.n0 - x.n2⟩
  | _ => ⟨0, 0, 0, 0, 0, 0, 0, 0⟩

/-- A common denominator of the coefficients, positive. -/
def NUM.den (x : NUM) : Nat :=
  Nat.lcm (Nat.lcm (Nat.lcm x.c0.den x.c1.den) (Nat.lcm x.c2.den x.c3.den))
    (Nat.lcm (Nat.lcm x.c4.den x.c5.den) (Nat.lcm x.c6.den x.c7.den))

/-- The numerator of a rational over the denominator `d`, a multiple of its own. -/
def numeratorOver (d : Nat) (q : ℚ) : Int :=
  q.num * ((d / q.den : Nat) : Int)

/-- `d·x`, for a common denominator `d` of `x`'s coefficients. -/
def NUM.times (d : Nat) (x : NUM) : Cyc :=
  ⟨numeratorOver d x.c0, numeratorOver d x.c1, numeratorOver d x.c2, numeratorOver d x.c3,
    numeratorOver d x.c4, numeratorOver d x.c5, numeratorOver d x.c6, numeratorOver d x.c7⟩

/-- `x/d`. -/
def Cyc.over (d : Nat) (x : Cyc) : NUM :=
  ⟨mkRat x.n0 d, mkRat x.n1 d, mkRat x.n2 d, mkRat x.n3 d, mkRat x.n4 d, mkRat x.n5 d, mkRat x.n6 d, mkRat x.n7 d⟩

/-! The sign of a number, decided exactly: `2cos(4π/16) = √2`, `2cos(2π/16) = √(2+√2)`, `2cos(π/16) = √(2+√(2+√2))`. -/

/-- `a + b·√2`, integers. -/
structure Surd2 where
  a : Int
  b : Int
  deriving DecidableEq, Repr

/-- `a + b·√(2+√2)`. -/
structure Surd4 where
  a : Surd2
  b : Surd2
  deriving DecidableEq, Repr

/-- `a + b·√(2+√(2+√2))`. -/
structure Surd8 where
  a : Surd4
  b : Surd4
  deriving DecidableEq, Repr

/-- The sum. -/
def Surd2.add (x y : Surd2) : Surd2 := ⟨x.a + y.a, x.b + y.b⟩

/-- The difference. -/
def Surd2.sub (x y : Surd2) : Surd2 := ⟨x.a - y.a, x.b - y.b⟩

/-- The product. -/
def Surd2.mul (x y : Surd2) : Surd2 := ⟨x.a * y.a + 2 * (x.b * y.b), x.a * y.b + x.b * y.a⟩

/-- The product with `2 + √2`. -/
def Surd2.mulRadicand (x : Surd2) : Surd2 := ⟨2 * x.a + 2 * x.b, x.a + 2 * x.b⟩

/-- The difference. -/
def Surd4.sub (x y : Surd4) : Surd4 := ⟨x.a.sub y.a, x.b.sub y.b⟩

/-- The product. -/
def Surd4.mul (x y : Surd4) : Surd4 :=
  ⟨(x.a.mul y.a).add (x.b.mul y.b).mulRadicand, (x.a.mul y.b).add (x.b.mul y.a)⟩

/-- The product with `2 + √(2+√2)`. -/
def Surd4.mulRadicand (x : Surd4) : Surd4 :=
  ⟨(x.a.add x.a).add x.b.mulRadicand, x.a.add (x.b.add x.b)⟩

/-- The sign of `a + b·r`, `r > 0`, from the signs of `a`, `b` and `a² - b²·r²`. -/
def surdSign (sa sb sd : Int) : Int :=
  if sa = 0 then sb else if sb = 0 then sa else if sa = sb then sa else sa * sd

/-- The sign: -1, 0 or 1. -/
def Surd2.sign (x : Surd2) : Int :=
  surdSign x.a.sign x.b.sign (x.a * x.a - 2 * (x.b * x.b)).sign

/-- The sign: -1, 0 or 1. -/
def Surd4.sign (x : Surd4) : Int :=
  surdSign x.a.sign x.b.sign ((x.a.mul x.a).sub (x.b.mul x.b).mulRadicand).sign

/-- The sign: -1, 0 or 1. -/
def Surd8.sign (x : Surd8) : Int :=
  surdSign x.a.sign x.b.sign ((x.a.mul x.a).sub (x.b.mul x.b).mulRadicand).sign

/-- The number in surds: with `α = 2cos(2π/16)` and `β = 2cos(π/16)`, `2cos(3π/16) = βα - β`,
`2cos(5π/16) = β√2 - βα + β`, `2cos(6π/16) = α√2 - α`, `2cos(7π/16) = βα√2 - β√2 - β`. -/
def Cyc.surds (x : Cyc) : Surd8 :=
  ⟨⟨⟨x.n0, x.n4⟩, ⟨x.n2 - x.n6, x.n6⟩⟩,
    ⟨⟨x.n1 - x.n3 + x.n5 - x.n7, x.n5 - x.n7⟩, ⟨x.n3 - x.n5, x.n7⟩⟩⟩

/-- The sign of `x - n`: -1, 0 or 1. -/
def Cyc.compareInt (x : Cyc) (n : Int) : Int :=
  (⟨x.n0 - n, x.n1, x.n2, x.n3, x.n4, x.n5, x.n6, x.n7⟩ : Cyc).surds.sign

/-- A number above `|x|`: no cosine is above 1. -/
def Cyc.bound (x : Cyc) : Nat :=
  x.n0.natAbs + 2 * (x.n1.natAbs + x.n2.natAbs + x.n3.natAbs + x.n4.natAbs + x.n5.natAbs + x.n6.natAbs
    + x.n7.natAbs) + 1

/-- The largest `n` in `lo .. lo + 2^k - 1` with `ge n`, by halving, for an `ge` that is true up to some point from `lo`
on and false above it. -/
def searchFloor (ge : Int → Bool) : Nat → Int → Int
  | 0, lo => lo
  | k + 1, lo => if ge (lo + 2 ^ k) then searchFloor ge k (lo + 2 ^ k) else searchFloor ge k lo

/-- `⌊x/d⌋`, `d > 0`. -/
def Cyc.floorDiv (x : Cyc) (d : Nat) : Int :=
  let m := Nat.log2 (x.bound / d + 1) + 1
  searchFloor (fun n => decide (0 ≤ x.compareInt (n * d))) (m + 1) (-(2 ^ m))

/-- `⌊x⌋` (00_scope R11). -/
def NUM.floor (x : NUM) : Int :=
  (x.times x.den).floorDiv x.den

/-- `round(x)`: the nearest integer, a tie by the rule (41_quantizer R143). With `n = ⌊x⌋`, `x` is compared with
`n + 1/2`. -/
def NUM.round (r : QRound) (x : NUM) : Int :=
  let d := x.den
  let y := x.times d
  let n := y.floorDiv d
  let s := (y.scale 2).compareInt ((2 * n + 1) * d)
  if s < 0 then n
  else if 0 < s then n + 1
  else
    match r with
    | .halfEven => if n % 2 = 0 then n else n + 1
    | .halfAway => if n < 0 then n else n + 1

end Sys2Proof.Machine
end

