-- ==== Sys2Proof/Machine/Block.lean ====
section
/-! DEFINITION. 8×8 blocks (00_scope R14) and the two matrix products of the transform (40_transform R122, R123). -/

namespace Sys2Proof.Machine

/-- An 8×8 block, its 64 values in row-major (raster) order (00_scope R14). -/
abbrev Block (α : Type) := Vector α 64

/-- The raster index `8i + j`. -/
def raster (i j : Fin 8) : Fin 64 :=
  ⟨8 * i.val + j.val, by omega⟩

/-- The row of a raster index. -/
def rowOf (k : Fin 64) : Fin 8 :=
  ⟨k.val / 8, by omega⟩

/-- The column of a raster index. -/
def colOf (k : Fin 64) : Fin 8 :=
  ⟨k.val % 8, by omega⟩

/-- `B[i][j]` (00_scope R14). -/
def blockAt {α : Type} (b : Block α) (i j : Fin 8) : α :=
  b[raster i j]

/-- The block with `B[i][j] = f i j`. -/
def blockOf {α : Type} (f : Fin 8 → Fin 8 → α) : Block α :=
  Vector.ofFn fun k => f (rowOf k) (colOf k)

/-- The block with every value `a`. -/
def blockConst {α : Type} (a : α) : Block α :=
  blockOf fun _ _ => a

end Sys2Proof.Machine
end

