-- ==== Sys2Proof/Machine/Bits.lean ====
section
/-! DEFINITION. Bit strings and numerals (00_scope R12) and the byte order of a record (20_memory R63, 47_packer R242). -/

namespace Sys2Proof.Machine

/-- `bin_n(k)`: the `n`-bit unsigned numeral of `k`, most significant bit first (00_scope R12). -/
def binOf : Nat → Nat → Bits
  | 0, _ => []
  | n + 1, k => k.testBit n :: binOf n k

/-- `val(b)`: the unsigned integer whose numeral is `b` (00_scope R12). -/
def valOf (b : Bits) : Nat :=
  b.foldl (fun acc bit => 2 * acc + bit.toNat) 0

/-- `b[p : p+n]` (00_scope R12). -/
def window (b : Bits) (p n : Nat) : Bits :=
  (b.drop p).take n

/-- The byte of eight bits of the sequence (20_memory R63; LSB first is log 23). -/
def byteOf (o : BitOrder) (b : Bits) : Byte :=
  match o with
  | .msbFirst => BitVec.ofNat 8 (valOf b)
  | .lsbFirst => BitVec.ofNat 8 (valOf b.reverse)

/-- The eight bits of a byte, in the order of the sequence (20_memory R63; LSB first is log 23). -/
def bitsOfByte (o : BitOrder) (b : Byte) : Bits :=
  match o with
  | .msbFirst => binOf 8 b.toNat
  | .lsbFirst => (binOf 8 b.toNat).reverse

/-- `bytes(F)`: byte `k` holds bits `8k .. 8k+7` (20_memory R63, 47_packer R242). Bits beyond the last whole byte make no
byte; `PACK` never has any. -/
def bytesOf (o : BitOrder) : Bits → List Byte
  | b0 :: b1 :: b2 :: b3 :: b4 :: b5 :: b6 :: b7 :: t => byteOf o [b0, b1, b2, b3, b4, b5, b6, b7] :: bytesOf o t
  | _ => []

/-- `bits(B)`: the concatenation of the bytes' bits (47_packer R242). -/
def bitsOf (o : BitOrder) (bs : List Byte) : Bits :=
  bs.flatMap (bitsOfByte o)

end Sys2Proof.Machine
end

