-- ==== Sys2Proof/Machine/Params.lean ====
section
/-! DEFINITION. The parameters of 00_scope R10 as named arguments of the model, what they must satisfy, and the spec's defaults;
and the zig-zag order, the one constant of 10_state R43 that is no parameter. -/

namespace Sys2Proof.Machine

/-- The two base quantization tables, each in raster order (41_quantizer R140). -/
structure QTables where
  lum : Vector Nat 64
  chr : Vector Nat 64
  deriving DecidableEq, Repr

/-- `QTABLE[L][i][j]`, at the raster index of `(i, j)` (41_quantizer R140). -/
def QTables.at (t : QTables) (l : Layer) (k : Fin 64) : Nat :=
  match l with
  | .lum => t.lum[k]
  | .chr => t.chr[k]

/-- Every entry is a positive integer, which is all the rules need (41_quantizer R140). -/
def QTables.valid (t : QTables) : Bool :=
  t.lum.toList.all (fun n => 0 < n) && t.chr.toList.all fun n => 0 < n

/-- The default `QTABLE[LUM]`, T.81 Annex K, by rows (41_quantizer R140; log 3). -/
def qTableLum : List Nat :=
  [16, 11, 10, 16, 24, 40, 51, 61] ++
  [12, 12, 14, 19, 26, 58, 60, 55] ++
  [14, 13, 16, 24, 40, 57, 69, 56] ++
  [14, 17, 22, 29, 51, 87, 80, 62] ++
  [18, 22, 37, 56, 68, 109, 103, 77] ++
  [24, 35, 55, 64, 81, 104, 113, 92] ++
  [49, 64, 78, 87, 103, 121, 120, 101] ++
  [72, 92, 95, 98, 112, 100, 103, 99]

/-- The default `QTABLE[CHR]`, T.81 Annex K, by rows (41_quantizer R140; log 3). -/
def qTableChr : List Nat :=
  [17, 18, 24, 47, 99, 99, 99, 99] ++
  [18, 21, 26, 66, 99, 99, 99, 99] ++
  [24, 26, 56, 99, 99, 99, 99, 99] ++
  [47, 66, 99, 99, 99, 99, 99, 99] ++
  [99, 99, 99, 99, 99, 99, 99, 99] ++
  [99, 99, 99, 99, 99, 99, 99, 99] ++
  [99, 99, 99, 99, 99, 99, 99, 99] ++
  [99, 99, 99, 99, 99, 99, 99, 99]

/-- The default `QTABLE` (41_quantizer R140; log 3). -/
def QTables.default : QTables :=
  ⟨⟨qTableLum.toArray, rfl⟩, ⟨qTableChr.toArray, rfl⟩⟩

/-- One entry of a codeword table: the key `(run, size)` (`run` is 0 in a DC table, EOB is `(0, 0)`, ZRL is `(15, 0)`)
and the codeword as its length and its unsigned value, first bit most significant (45_huffman R190). -/
structure Code where
  run  : Nat
  size : Nat
  len  : Nat
  word : Nat
  deriving DecidableEq, Repr

/-- The codeword's bits. -/
def Code.bits (c : Code) : Bits :=
  binOf c.len c.word

/-- A codeword table (45_huffman R190) with its auxiliary decode index `LENS`, the increasing list of the distinct lengths of its
codewords (45_huffman R193). -/
structure HTable where
  codes : List Code
  lens  : List Nat
  deriving DecidableEq, Repr

/-- `HTABLE[DC][LUM]`, default T.81 Annex K (46_huffman_tables R232; log 4). -/
def hTableDcLum : HTable :=
  ⟨[⟨0, 0, 2, 0b00⟩, ⟨0, 1, 3, 0b010⟩, ⟨0, 2, 3, 0b011⟩, ⟨0, 3, 3, 0b100⟩] ++
    [⟨0, 4, 3, 0b101⟩, ⟨0, 5, 3, 0b110⟩, ⟨0, 6, 4, 0b1110⟩, ⟨0, 7, 5, 0b11110⟩] ++
    [⟨0, 8, 6, 0b111110⟩, ⟨0, 9, 7, 0b1111110⟩, ⟨0, 10, 8, 0b11111110⟩, ⟨0, 11, 9, 0b111111110⟩],
    [2, 3, 4, 5, 6, 7, 8, 9]⟩

/-- `HTABLE[DC][CHR]`, default T.81 Annex K (46_huffman_tables R233; log 4). -/
def hTableDcChr : HTable :=
  ⟨[⟨0, 0, 2, 0b00⟩, ⟨0, 1, 2, 0b01⟩, ⟨0, 2, 2, 0b10⟩, ⟨0, 3, 3, 0b110⟩] ++
    [⟨0, 4, 4, 0b1110⟩, ⟨0, 5, 5, 0b11110⟩, ⟨0, 6, 6, 0b111110⟩, ⟨0, 7, 7, 0b1111110⟩] ++
    [⟨0, 8, 8, 0b11111110⟩, ⟨0, 9, 9, 0b111111110⟩, ⟨0, 10, 10, 0b1111111110⟩, ⟨0, 11, 11, 0b11111111110⟩],
    [2, 3, 4, 5, 6, 7, 8, 9, 10, 11]⟩

/-- The rows of run 0 of `HTABLE[AC][LUM]` (46_huffman_tables R234). -/
def hTableAcLum0 : List Code :=
  [⟨0, 0, 4, 0b1010⟩, ⟨0, 1, 2, 0b00⟩, ⟨0, 2, 2, 0b01⟩,
   ⟨0, 3, 3, 0b100⟩, ⟨0, 4, 4, 0b1011⟩, ⟨0, 5, 5, 0b11010⟩,
   ⟨0, 6, 7, 0b1111000⟩, ⟨0, 7, 8, 0b11111000⟩, ⟨0, 8, 10, 0b1111110110⟩,
   ⟨0, 9, 16, 0b1111111110000010⟩, ⟨0, 10, 16, 0b1111111110000011⟩]

/-- The rows of run 1 of `HTABLE[AC][LUM]` (46_huffman_tables R234). -/
def hTableAcLum1 : List Code :=
  [⟨1, 1, 4, 0b1100⟩, ⟨1, 2, 5, 0b11011⟩, ⟨1, 3, 7, 0b1111001⟩,
   ⟨1, 4, 9, 0b111110110⟩, ⟨1, 5, 11, 0b11111110110⟩, ⟨1, 6, 16, 0b1111111110000100⟩,
   ⟨1, 7, 16, 0b1111111110000101⟩, ⟨1, 8, 16, 0b1111111110000110⟩, ⟨1, 9, 16, 0b1111111110000111⟩,
   ⟨1, 10, 16, 0b1111111110001000⟩]

/-- The rows of run 2 of `HTABLE[AC][LUM]` (46_huffman_tables R234). -/
def hTableAcLum2 : List Code :=
  [⟨2, 1, 5, 0b11100⟩, ⟨2, 2, 8, 0b11111001⟩, ⟨2, 3, 10, 0b1111110111⟩,
   ⟨2, 4, 12, 0b111111110100⟩, ⟨2, 5, 16, 0b1111111110001001⟩, ⟨2, 6, 16, 0b1111111110001010⟩,
   ⟨2, 7, 16, 0b1111111110001011⟩, ⟨2, 8, 16, 0b1111111110001100⟩, ⟨2, 9, 16, 0b1111111110001101⟩,
   ⟨2, 10, 16, 0b1111111110001110⟩]

/-- The rows of run 3 of `HTABLE[AC][LUM]` (46_huffman_tables R234). -/
def hTableAcLum3 : List Code :=
  [⟨3, 1, 6, 0b111010⟩, ⟨3, 2, 9, 0b111110111⟩, ⟨3, 3, 12, 0b111111110101⟩,
   ⟨3, 4, 16, 0b1111111110001111⟩, ⟨3, 5, 16, 0b1111111110010000⟩, ⟨3, 6, 16, 0b1111111110010001⟩,
   ⟨3, 7, 16, 0b1111111110010010⟩, ⟨3, 8, 16, 0b1111111110010011⟩, ⟨3, 9, 16, 0b1111111110010100⟩,
   ⟨3, 10, 16, 0b1111111110010101⟩]

/-- The rows of run 4 of `HTABLE[AC][LUM]` (46_huffman_tables R234). -/
def hTableAcLum4 : List Code :=
  [⟨4, 1, 6, 0b111011⟩, ⟨4, 2, 10, 0b1111111000⟩, ⟨4, 3, 16, 0b1111111110010110⟩,
   ⟨4, 4, 16, 0b1111111110010111⟩, ⟨4, 5, 16, 0b1111111110011000⟩, ⟨4, 6, 16, 0b1111111110011001⟩,
   ⟨4, 7, 16, 0b1111111110011010⟩, ⟨4, 8, 16, 0b1111111110011011⟩, ⟨4, 9, 16, 0b1111111110011100⟩,
   ⟨4, 10, 16, 0b1111111110011101⟩]

/-- The rows of run 5 of `HTABLE[AC][LUM]` (46_huffman_tables R234). -/
def hTableAcLum5 : List Code :=
  [⟨5, 1, 7, 0b1111010⟩, ⟨5, 2, 11, 0b11111110111⟩, ⟨5, 3, 16, 0b1111111110011110⟩,
   ⟨5, 4, 16, 0b1111111110011111⟩, ⟨5, 5, 16, 0b1111111110100000⟩, ⟨5, 6, 16, 0b1111111110100001⟩,
   ⟨5, 7, 16, 0b1111111110100010⟩, ⟨5, 8, 16, 0b1111111110100011⟩, ⟨5, 9, 16, 0b1111111110100100⟩,
   ⟨5, 10, 16, 0b1111111110100101⟩]

/-- The rows of run 6 of `HTABLE[AC][LUM]` (46_huffman_tables R234). -/
def hTableAcLum6 : List Code :=
  [⟨6, 1, 7, 0b1111011⟩, ⟨6, 2, 12, 0b111111110110⟩, ⟨6, 3, 16, 0b1111111110100110⟩,
   ⟨6, 4, 16, 0b1111111110100111⟩, ⟨6, 5, 16, 0b1111111110101000⟩, ⟨6, 6, 16, 0b1111111110101001⟩,
   ⟨6, 7, 16, 0b1111111110101010⟩, ⟨6, 8, 16, 0b1111111110101011⟩, ⟨6, 9, 16, 0b1111111110101100⟩,
   ⟨6, 10, 16, 0b1111111110101101⟩]

/-- The rows of run 7 of `HTABLE[AC][LUM]` (46_huffman_tables R234). -/
def hTableAcLum7 : List Code :=
  [⟨7, 1, 8, 0b11111010⟩, ⟨7, 2, 12, 0b111111110111⟩, ⟨7, 3, 16, 0b1111111110101110⟩,
   ⟨7, 4, 16, 0b1111111110101111⟩, ⟨7, 5, 16, 0b1111111110110000⟩, ⟨7, 6, 16, 0b1111111110110001⟩,
   ⟨7, 7, 16, 0b1111111110110010⟩, ⟨7, 8, 16, 0b1111111110110011⟩, ⟨7, 9, 16, 0b1111111110110100⟩,
   ⟨7, 10, 16, 0b1111111110110101⟩]

/-- The rows of run 8 of `HTABLE[AC][LUM]` (46_huffman_tables R234). -/
def hTableAcLum8 : List Code :=
  [⟨8, 1, 9, 0b111111000⟩, ⟨8, 2, 15, 0b111111111000000⟩, ⟨8, 3, 16, 0b1111111110110110⟩,
   ⟨8, 4, 16, 0b1111111110110111⟩, ⟨8, 5, 16, 0b1111111110111000⟩, ⟨8, 6, 16, 0b1111111110111001⟩,
   ⟨8, 7, 16, 0b1111111110111010⟩, ⟨8, 8, 16, 0b1111111110111011⟩, ⟨8, 9, 16, 0b1111111110111100⟩,
   ⟨8, 10, 16, 0b1111111110111101⟩]

/-- The rows of run 9 of `HTABLE[AC][LUM]` (46_huffman_tables R234). -/
def hTableAcLum9 : List Code :=
  [⟨9, 1, 9, 0b111111001⟩, ⟨9, 2, 16, 0b1111111110111110⟩, ⟨9, 3, 16, 0b1111111110111111⟩,
   ⟨9, 4, 16, 0b1111111111000000⟩, ⟨9, 5, 16, 0b1111111111000001⟩, ⟨9, 6, 16, 0b1111111111000010⟩,
   ⟨9, 7, 16, 0b1111111111000011⟩, ⟨9, 8, 16, 0b1111111111000100⟩, ⟨9, 9, 16, 0b1111111111000101⟩,
   ⟨9, 10, 16, 0b1111111111000110⟩]

/-- The rows of run 10 of `HTABLE[AC][LUM]` (46_huffman_tables R234). -/
def hTableAcLum10 : List Code :=
  [⟨10, 1, 9, 0b111111010⟩, ⟨10, 2, 16, 0b1111111111000111⟩, ⟨10, 3, 16, 0b1111111111001000⟩,
   ⟨10, 4, 16, 0b1111111111001001⟩, ⟨10, 5, 16, 0b1111111111001010⟩, ⟨10, 6, 16, 0b1111111111001011⟩,
   ⟨10, 7, 16, 0b1111111111001100⟩, ⟨10, 8, 16, 0b1111111111001101⟩, ⟨10, 9, 16, 0b1111111111001110⟩,
   ⟨10, 10, 16, 0b1111111111001111⟩]

/-- The rows of run 11 of `HTABLE[AC][LUM]` (46_huffman_tables R234). -/
def hTableAcLum11 : List Code :=
  [⟨11, 1, 10, 0b1111111001⟩, ⟨11, 2, 16, 0b1111111111010000⟩, ⟨11, 3, 16, 0b1111111111010001⟩,
   ⟨11, 4, 16, 0b1111111111010010⟩, ⟨11, 5, 16, 0b1111111111010011⟩, ⟨11, 6, 16, 0b1111111111010100⟩,
   ⟨11, 7, 16, 0b1111111111010101⟩, ⟨11, 8, 16, 0b1111111111010110⟩, ⟨11, 9, 16, 0b1111111111010111⟩,
   ⟨11, 10, 16, 0b1111111111011000⟩]

/-- The rows of run 12 of `HTABLE[AC][LUM]` (46_huffman_tables R234). -/
def hTableAcLum12 : List Code :=
  [⟨12, 1, 10, 0b1111111010⟩, ⟨12, 2, 16, 0b1111111111011001⟩, ⟨12, 3, 16, 0b1111111111011010⟩,
   ⟨12, 4, 16, 0b1111111111011011⟩, ⟨12, 5, 16, 0b1111111111011100⟩, ⟨12, 6, 16, 0b1111111111011101⟩,
   ⟨12, 7, 16, 0b1111111111011110⟩, ⟨12, 8, 16, 0b1111111111011111⟩, ⟨12, 9, 16, 0b1111111111100000⟩,
   ⟨12, 10, 16, 0b1111111111100001⟩]

/-- The rows of run 13 of `HTABLE[AC][LUM]` (46_huffman_tables R234). -/
def hTableAcLum13 : List Code :=
  [⟨13, 1, 11, 0b11111111000⟩, ⟨13, 2, 16, 0b1111111111100010⟩, ⟨13, 3, 16, 0b1111111111100011⟩,
   ⟨13, 4, 16, 0b1111111111100100⟩, ⟨13, 5, 16, 0b1111111111100101⟩, ⟨13, 6, 16, 0b1111111111100110⟩,
   ⟨13, 7, 16, 0b1111111111100111⟩, ⟨13, 8, 16, 0b1111111111101000⟩, ⟨13, 9, 16, 0b1111111111101001⟩,
   ⟨13, 10, 16, 0b1111111111101010⟩]

/-- The rows of run 14 of `HTABLE[AC][LUM]` (46_huffman_tables R234). -/
def hTableAcLum14 : List Code :=
  [⟨14, 1, 16, 0b1111111111101011⟩, ⟨14, 2, 16, 0b1111111111101100⟩, ⟨14, 3, 16, 0b1111111111101101⟩,
   ⟨14, 4, 16, 0b1111111111101110⟩, ⟨14, 5, 16, 0b1111111111101111⟩, ⟨14, 6, 16, 0b1111111111110000⟩,
   ⟨14, 7, 16, 0b1111111111110001⟩, ⟨14, 8, 16, 0b1111111111110010⟩, ⟨14, 9, 16, 0b1111111111110011⟩,
   ⟨14, 10, 16, 0b1111111111110100⟩]

/-- The rows of run 15 of `HTABLE[AC][LUM]` (46_huffman_tables R234). -/
def hTableAcLum15 : List Code :=
  [⟨15, 0, 11, 0b11111111001⟩, ⟨15, 1, 16, 0b1111111111110101⟩, ⟨15, 2, 16, 0b1111111111110110⟩,
   ⟨15, 3, 16, 0b1111111111110111⟩, ⟨15, 4, 16, 0b1111111111111000⟩, ⟨15, 5, 16, 0b1111111111111001⟩,
   ⟨15, 6, 16, 0b1111111111111010⟩, ⟨15, 7, 16, 0b1111111111111011⟩, ⟨15, 8, 16, 0b1111111111111100⟩,
   ⟨15, 9, 16, 0b1111111111111101⟩, ⟨15, 10, 16, 0b1111111111111110⟩]

/-- `HTABLE[AC][LUM]`, default T.81 Annex K, 162 entries (46_huffman_tables R234; log 4). -/
def hTableAcLum : HTable :=
  ⟨[hTableAcLum0, hTableAcLum1, hTableAcLum2, hTableAcLum3,
    hTableAcLum4, hTableAcLum5, hTableAcLum6, hTableAcLum7,
    hTableAcLum8, hTableAcLum9, hTableAcLum10, hTableAcLum11,
    hTableAcLum12, hTableAcLum13, hTableAcLum14, hTableAcLum15].flatten,
    [2, 3, 4, 5, 6, 7, 8, 9, 10, 11, 12, 15, 16]⟩

/-- The rows of run 0 of `HTABLE[AC][CHR]` (46_huffman_tables R235). -/
def hTableAcChr0 : List Code :=
  [⟨0, 0, 2, 0b00⟩, ⟨0, 1, 2, 0b01⟩, ⟨0, 2, 3, 0b100⟩,
   ⟨0, 3, 4, 0b1010⟩, ⟨0, 4, 5, 0b11000⟩, ⟨0, 5, 5, 0b11001⟩,
   ⟨0, 6, 6, 0b111000⟩, ⟨0, 7, 7, 0b1111000⟩, ⟨0, 8, 9, 0b111110100⟩,
   ⟨0, 9, 10, 0b1111110110⟩, ⟨0, 10, 12, 0b111111110100⟩]

/-- The rows of run 1 of `HTABLE[AC][CHR]` (46_huffman_tables R235). -/
def hTableAcChr1 : List Code :=
  [⟨1, 1, 4, 0b1011⟩, ⟨1, 2, 6, 0b111001⟩, ⟨1, 3, 8, 0b11110110⟩,
   ⟨1, 4, 9, 0b111110101⟩, ⟨1, 5, 11, 0b11111110110⟩, ⟨1, 6, 12, 0b111111110101⟩,
   ⟨1, 7, 16, 0b1111111110001000⟩, ⟨1, 8, 16, 0b1111111110001001⟩, ⟨1, 9, 16, 0b1111111110001010⟩,
   ⟨1, 10, 16, 0b1111111110001011⟩]

/-- The rows of run 2 of `HTABLE[AC][CHR]` (46_huffman_tables R235). -/
def hTableAcChr2 : List Code :=
  [⟨2, 1, 5, 0b11010⟩, ⟨2, 2, 8, 0b11110111⟩, ⟨2, 3, 10, 0b1111110111⟩,
   ⟨2, 4, 12, 0b111111110110⟩, ⟨2, 5, 15, 0b111111111000010⟩, ⟨2, 6, 16, 0b1111111110001100⟩,
   ⟨2, 7, 16, 0b1111111110001101⟩, ⟨2, 8, 16, 0b1111111110001110⟩, ⟨2, 9, 16, 0b1111111110001111⟩,
   ⟨2, 10, 16, 0b1111111110010000⟩]

/-- The rows of run 3 of `HTABLE[AC][CHR]` (46_huffman_tables R235). -/
def hTableAcChr3 : List Code :=
  [⟨3, 1, 5, 0b11011⟩, ⟨3, 2, 8, 0b11111000⟩, ⟨3, 3, 10, 0b1111111000⟩,
   ⟨3, 4, 12, 0b111111110111⟩, ⟨3, 5, 16, 0b1111111110010001⟩, ⟨3, 6, 16, 0b1111111110010010⟩,
   ⟨3, 7, 16, 0b1111111110010011⟩, ⟨3, 8, 16, 0b1111111110010100⟩, ⟨3, 9, 16, 0b1111111110010101⟩,
   ⟨3, 10, 16, 0b1111111110010110⟩]

/-- The rows of run 4 of `HTABLE[AC][CHR]` (46_huffman_tables R235). -/
def hTableAcChr4 : List Code :=
  [⟨4, 1, 6, 0b111010⟩, ⟨4, 2, 9, 0b111110110⟩, ⟨4, 3, 16, 0b1111111110010111⟩,
   ⟨4, 4, 16, 0b1111111110011000⟩, ⟨4, 5, 16, 0b1111111110011001⟩, ⟨4, 6, 16, 0b1111111110011010⟩,
   ⟨4, 7, 16, 0b1111111110011011⟩, ⟨4, 8, 16, 0b1111111110011100⟩, ⟨4, 9, 16, 0b1111111110011101⟩,
   ⟨4, 10, 16, 0b1111111110011110⟩]

/-- The rows of run 5 of `HTABLE[AC][CHR]` (46_huffman_tables R235). -/
def hTableAcChr5 : List Code :=
  [⟨5, 1, 6, 0b111011⟩, ⟨5, 2, 10, 0b1111111001⟩, ⟨5, 3, 16, 0b1111111110011111⟩,
   ⟨5, 4, 16, 0b1111111110100000⟩, ⟨5, 5, 16, 0b1111111110100001⟩, ⟨5, 6, 16, 0b1111111110100010⟩,
   ⟨5, 7, 16, 0b1111111110100011⟩, ⟨5, 8, 16, 0b1111111110100100⟩, ⟨5, 9, 16, 0b1111111110100101⟩,
   ⟨5, 10, 16, 0b1111111110100110⟩]

/-- The rows of run 6 of `HTABLE[AC][CHR]` (46_huffman_tables R235). -/
def hTableAcChr6 : List Code :=
  [⟨6, 1, 7, 0b1111001⟩, ⟨6, 2, 11, 0b11111110111⟩, ⟨6, 3, 16, 0b1111111110100111⟩,
   ⟨6, 4, 16, 0b1111111110101000⟩, ⟨6, 5, 16, 0b1111111110101001⟩, ⟨6, 6, 16, 0b1111111110101010⟩,
   ⟨6, 7, 16, 0b1111111110101011⟩, ⟨6, 8, 16, 0b1111111110101100⟩, ⟨6, 9, 16, 0b1111111110101101⟩,
   ⟨6, 10, 16, 0b1111111110101110⟩]

/-- The rows of run 7 of `HTABLE[AC][CHR]` (46_huffman_tables R235). -/
def hTableAcChr7 : List Code :=
  [⟨7, 1, 7, 0b1111010⟩, ⟨7, 2, 11, 0b11111111000⟩, ⟨7, 3, 16, 0b1111111110101111⟩,
   ⟨7, 4, 16, 0b1111111110110000⟩, ⟨7, 5, 16, 0b1111111110110001⟩, ⟨7, 6, 16, 0b1111111110110010⟩,
   ⟨7, 7, 16, 0b1111111110110011⟩, ⟨7, 8, 16, 0b1111111110110100⟩, ⟨7, 9, 16, 0b1111111110110101⟩,
   ⟨7, 10, 16, 0b1111111110110110⟩]

/-- The rows of run 8 of `HTABLE[AC][CHR]` (46_huffman_tables R235). -/
def hTableAcChr8 : List Code :=
  [⟨8, 1, 8, 0b11111001⟩, ⟨8, 2, 16, 0b1111111110110111⟩, ⟨8, 3, 16, 0b1111111110111000⟩,
   ⟨8, 4, 16, 0b1111111110111001⟩, ⟨8, 5, 16, 0b1111111110111010⟩, ⟨8, 6, 16, 0b1111111110111011⟩,
   ⟨8, 7, 16, 0b1111111110111100⟩, ⟨8, 8, 16, 0b1111111110111101⟩, ⟨8, 9, 16, 0b1111111110111110⟩,
   ⟨8, 10, 16, 0b1111111110111111⟩]

/-- The rows of run 9 of `HTABLE[AC][CHR]` (46_huffman_tables R235). -/
def hTableAcChr9 : List Code :=
  [⟨9, 1, 9, 0b111110111⟩, ⟨9, 2, 16, 0b1111111111000000⟩, ⟨9, 3, 16, 0b1111111111000001⟩,
   ⟨9, 4, 16, 0b1111111111000010⟩, ⟨9, 5, 16, 0b1111111111000011⟩, ⟨9, 6, 16, 0b1111111111000100⟩,
   ⟨9, 7, 16, 0b1111111111000101⟩, ⟨9, 8, 16, 0b1111111111000110⟩, ⟨9, 9, 16, 0b1111111111000111⟩,
   ⟨9, 10, 16, 0b1111111111001000⟩]

/-- The rows of run 10 of `HTABLE[AC][CHR]` (46_huffman_tables R235). -/
def hTableAcChr10 : List Code :=
  [⟨10, 1, 9, 0b111111000⟩, ⟨10, 2, 16, 0b1111111111001001⟩, ⟨10, 3, 16, 0b1111111111001010⟩,
   ⟨10, 4, 16, 0b1111111111001011⟩, ⟨10, 5, 16, 0b1111111111001100⟩, ⟨10, 6, 16, 0b1111111111001101⟩,
   ⟨10, 7, 16, 0b1111111111001110⟩, ⟨10, 8, 16, 0b1111111111001111⟩, ⟨10, 9, 16, 0b1111111111010000⟩,
   ⟨10, 10, 16, 0b1111111111010001⟩]

/-- The rows of run 11 of `HTABLE[AC][CHR]` (46_huffman_tables R235). -/
def hTableAcChr11 : List Code :=
  [⟨11, 1, 9, 0b111111001⟩, ⟨11, 2, 16, 0b1111111111010010⟩, ⟨11, 3, 16, 0b1111111111010011⟩,
   ⟨11, 4, 16, 0b1111111111010100⟩, ⟨11, 5, 16, 0b1111111111010101⟩, ⟨11, 6, 16, 0b1111111111010110⟩,
   ⟨11, 7, 16, 0b1111111111010111⟩, ⟨11, 8, 16, 0b1111111111011000⟩, ⟨11, 9, 16, 0b1111111111011001⟩,
   ⟨11, 10, 16, 0b1111111111011010⟩]

/-- The rows of run 12 of `HTABLE[AC][CHR]` (46_huffman_tables R235). -/
def hTableAcChr12 : List Code :=
  [⟨12, 1, 9, 0b111111010⟩, ⟨12, 2, 16, 0b1111111111011011⟩, ⟨12, 3, 16, 0b1111111111011100⟩,
   ⟨12, 4, 16, 0b1111111111011101⟩, ⟨12, 5, 16, 0b1111111111011110⟩, ⟨12, 6, 16, 0b1111111111011111⟩,
   ⟨12, 7, 16, 0b1111111111100000⟩, ⟨12, 8, 16, 0b1111111111100001⟩, ⟨12, 9, 16, 0b1111111111100010⟩,
   ⟨12, 10, 16, 0b1111111111100011⟩]

/-- The rows of run 13 of `HTABLE[AC][CHR]` (46_huffman_tables R235). -/
def hTableAcChr13 : List Code :=
  [⟨13, 1, 11, 0b11111111001⟩, ⟨13, 2, 16, 0b1111111111100100⟩, ⟨13, 3, 16, 0b1111111111100101⟩,
   ⟨13, 4, 16, 0b1111111111100110⟩, ⟨13, 5, 16, 0b1111111111100111⟩, ⟨13, 6, 16, 0b1111111111101000⟩,
   ⟨13, 7, 16, 0b1111111111101001⟩, ⟨13, 8, 16, 0b1111111111101010⟩, ⟨13, 9, 16, 0b1111111111101011⟩,
   ⟨13, 10, 16, 0b1111111111101100⟩]

/-- The rows of run 14 of `HTABLE[AC][CHR]` (46_huffman_tables R235). -/
def hTableAcChr14 : List Code :=
  [⟨14, 1, 14, 0b11111111100000⟩, ⟨14, 2, 16, 0b1111111111101101⟩, ⟨14, 3, 16, 0b1111111111101110⟩,
   ⟨14, 4, 16, 0b1111111111101111⟩, ⟨14, 5, 16, 0b1111111111110000⟩, ⟨14, 6, 16, 0b1111111111110001⟩,
   ⟨14, 7, 16, 0b1111111111110010⟩, ⟨14, 8, 16, 0b1111111111110011⟩, ⟨14, 9, 16, 0b1111111111110100⟩,
   ⟨14, 10, 16, 0b1111111111110101⟩]

/-- The rows of run 15 of `HTABLE[AC][CHR]` (46_huffman_tables R235). -/
def hTableAcChr15 : List Code :=
  [⟨15, 0, 10, 0b1111111010⟩, ⟨15, 1, 15, 0b111111111000011⟩, ⟨15, 2, 16, 0b1111111111110110⟩,
   ⟨15, 3, 16, 0b1111111111110111⟩, ⟨15, 4, 16, 0b1111111111111000⟩, ⟨15, 5, 16, 0b1111111111111001⟩,
   ⟨15, 6, 16, 0b1111111111111010⟩, ⟨15, 7, 16, 0b1111111111111011⟩, ⟨15, 8, 16, 0b1111111111111100⟩,
   ⟨15, 9, 16, 0b1111111111111101⟩, ⟨15, 10, 16, 0b1111111111111110⟩]

/-- `HTABLE[AC][CHR]`, default T.81 Annex K, 162 entries (46_huffman_tables R235; log 4). -/
def hTableAcChr : HTable :=
  ⟨[hTableAcChr0, hTableAcChr1, hTableAcChr2, hTableAcChr3,
    hTableAcChr4, hTableAcChr5, hTableAcChr6, hTableAcChr7,
    hTableAcChr8, hTableAcChr9, hTableAcChr10, hTableAcChr11,
    hTableAcChr12, hTableAcChr13, hTableAcChr14, hTableAcChr15].flatten,
    [2, 3, 4, 5, 6, 7, 8, 9, 10, 11, 12, 14, 15, 16]⟩

/-- The four codeword tables `HTABLE` (45_huffman R190). -/
structure HTables where
  dcLum : HTable
  dcChr : HTable
  acLum : HTable
  acChr : HTable
  deriving DecidableEq, Repr

/-- `HTABLE[T][L]`: the two axes of 45_huffman R190 and R191. -/
def HTables.get (h : HTables) : ValType → Layer → HTable
  | .dc, .lum => h.dcLum
  | .dc, .chr => h.dcChr
  | .ac, .lum => h.acLum
  | .ac, .chr => h.acChr

/-- The default `HTABLE`, T.81 Annex K (46_huffman_tables R230 to R235; log 4). -/
def HTables.default : HTables :=
  ⟨hTableDcLum, hTableDcChr, hTableAcLum, hTableAcChr⟩

/-- The codeword of a key, where the table has the key (45_huffman R190). -/
def HTable.code? (t : HTable) (run size : Nat) : Option Code :=
  t.codes.find? fun c => Nat.beq c.run run && Nat.beq c.size size

/-- `CODE⁻¹`: the entry whose codeword is the `len`-bit string of value `w` (45_huffman R193). -/
def HTable.entry? (t : HTable) (len w : Nat) : Option Code :=
  t.codes.find? fun c => Nat.beq c.len len && Nat.beq c.word w

/-- The set of the lengths of some codewords, bit `n` for the length `n`. -/
def lenSet (cs : List Code) : Nat :=
  cs.foldr (fun c m => (1 <<< c.len) ||| m) 0

/-- The distinct lengths of some codewords, increasing (45_huffman R193). -/
def lensOf (cs : List Code) : List Nat :=
  (List.range ((lenSet cs).log2 + 1)).filter (lenSet cs).testBit

/-- The keys a table of the value type has (45_huffman R190). -/
def ValType.keys : ValType → List (Nat × Nat)
  | .dc => (List.range 12).map fun s => (0, s)
  | .ac => (0, 0) :: (15, 0) :: (List.range 16).flatMap fun r => (List.range 10).map fun s => (r, s + 1)

/-- The key is one of them. -/
def ValType.hasKey (ty : ValType) (run size : Nat) : Bool :=
  match ty with
  | .dc => Nat.beq run 0 && Nat.ble size 11
  | .ac =>
    (Nat.ble run 15 && Nat.ble 1 size && Nat.ble size 10) || (Nat.beq size 0 && (Nat.beq run 0 || Nat.beq run 15))

/-- The codeword of `c` is a prefix of that of `d`, or the same. -/
def Code.isPrefix (c d : Code) : Bool :=
  Nat.ble c.len d.len && Nat.beq (d.word >>> (d.len - c.len)) c.word

/-- Two entries that no table may have together: they have the same key, or one's codeword is a prefix of the other's or the
same (45_huffman R192). -/
def Code.clash (c d : Code) : Bool :=
  (Nat.beq c.run d.run && Nat.beq c.size d.size) || c.isPrefix d || d.isPrefix c

/-- No two entries clash. -/
def codesApart : List Code → Bool
  | [] => true
  | c :: t => (t.all fun d => !c.clash d) && codesApart t

/-- The three properties a table must have (45_huffman R192): (a) its keys are exactly the domain, each once, (b) its
codewords are pairwise distinct, (c) none is a proper prefix of another; and how it is written down: each codeword as a
numeral of its length, with the index `LENS` of 45_huffman R193. -/
def HTable.valid (ty : ValType) (t : HTable) : Bool :=
  (ValType.keys ty).all (fun k => (t.code? k.1 k.2).isSome) &&
  t.codes.all (fun c => ValType.hasKey ty c.run c.size && Nat.blt c.word (2 ^ c.len)) &&
  codesApart t.codes && decide (t.lens = lensOf t.codes)

/-- All four tables have the properties of 45_huffman R192. -/
def HTables.valid (h : HTables) : Bool :=
  h.dcLum.valid .dc && h.dcChr.valid .dc && h.acLum.valid .ac && h.acChr.valid .ac

/-- The parameters the source leaves open, as named arguments of the model (00_scope R10): `QROUND`, `QTABLE`, `HTABLE`,
`INTW` and `SEGCAP` (`none` is unbounded), `BITORDER` (its values: log 23). The two others of R10 are `NUM`, which is the type argument of
`CoreState` with a `NumSystem`, and `CMDW`, which is the width of `Word`. No command changes one (10_state R43). -/
structure Params where
  qRound   : QRound
  qTables  : QTables
  hTables  : HTables
  intW     : Option Nat
  segCap   : Option Nat
  bitOrder : BitOrder
  deriving DecidableEq, Repr

/-- The defaults the spec takes (00_scope R10; logs 2 to 5, 23). -/
def Params.default : Params where
  qRound := .halfEven
  qTables := QTables.default
  hTables := HTables.default
  intW := none
  segCap := none
  bitOrder := .msbFirst

/-- What the spec requires of the parameters (41_quantizer R140, 45_huffman R192, 93_implementation_defined U11). -/
def Params.valid (p : Params) : Bool :=
  p.qTables.valid && p.hTables.valid

/-- The integer fits an integer register: it is a two's complement number of `INTW` bits (00_scope R10, U17). -/
def Params.fits (p : Params) (v : Int) : Bool :=
  match p.intW with
  | none => true
  | some w => decide (-(2 ^ w : Int) ≤ 2 * v) && decide (2 * v < (2 ^ w : Int))

/-- All the integers fit. -/
def Params.fitsAll (p : Params) (vs : List Int) : Bool :=
  match p.intW with
  | none => true
  | some _ => vs.all p.fits

/-- A segment of `n` bits fits its buffer (00_scope R10, U6). -/
def Params.holds (p : Params) (n : Nat) : Bool :=
  match p.segCap with
  | none => true
  | some c => Nat.ble n c

/-- The canonical codewords for a list of (length, key) in increasing length (46_huffman_tables R231): the next code is
the previous plus one, shifted left by the growth of the length. `prev` is the previous length and its next code. -/
def canonicalCodes : Nat × Nat → List (Nat × Nat × Nat) → List Code
  | _, [] => []
  | (len, next), (l, r, s) :: t =>
    let w := next <<< (l - len)
    ⟨r, s, l, w⟩ :: canonicalCodes (l, w + 1) t

/-- `ZZORDER` as raster indices `8 * row + column` (42_zigzag R160). -/
def zzOrderList : List (Fin 64) :=
  [0, 1, 8, 16, 9, 2, 3, 10] ++
  [17, 24, 32, 25, 18, 11, 4, 5] ++
  [12, 19, 26, 33, 40, 48, 41, 34] ++
  [27, 20, 13, 6, 7, 14, 21, 28] ++
  [35, 42, 49, 56, 57, 50, 43, 36] ++
  [29, 22, 15, 23, 30, 37, 44, 51] ++
  [58, 59, 52, 45, 38, 31, 39, 46] ++
  [53, 60, 61, 54, 47, 55, 62, 63]

/-- `ZZRANK` in raster order (42_zigzag R160). -/
def zzRankList : List (Fin 64) :=
  [0, 1, 5, 6, 14, 15, 27, 28] ++
  [2, 4, 7, 13, 16, 26, 29, 42] ++
  [3, 8, 12, 17, 25, 30, 41, 43] ++
  [9, 11, 18, 24, 31, 40, 44, 53] ++
  [10, 19, 23, 32, 39, 45, 52, 54] ++
  [20, 22, 33, 38, 46, 51, 55, 60] ++
  [21, 34, 37, 47, 50, 56, 59, 61] ++
  [35, 36, 48, 49, 57, 58, 62, 63]

/-- The block position, as a raster index, whose value becomes element `k` of the sequence (42_zigzag R160). -/
def zzOrder (k : Fin 64) : Fin 64 :=
  zzOrderList.getD k 0

/-- The sequence index at which a block position appears (42_zigzag R160). -/
def zzRank (p : Fin 64) : Fin 64 :=
  zzRankList.getD p 0

/-- One step of the walk that generates the order of an `n × n` block (42_zigzag R161). -/
def zzStep (n : Nat) (p : Nat × Nat) : Nat × Nat :=
  let (r, c) := p
  if (r + c) % 2 = 0 then
    if c = n - 1 then (r + 1, c) else if r = 0 then (r, c + 1) else (r - 1, c + 1)
  else
    if r = n - 1 then (r, c + 1) else if c = 0 then (r + 1, c) else (r + 1, c - 1)

/-- `m` positions of the walk from `p` (42_zigzag R161). -/
def zzWalkFrom (n : Nat) : Nat → Nat × Nat → List (Nat × Nat)
  | 0, _ => []
  | m + 1, p => p :: zzWalkFrom n m (zzStep n p)

/-- The walk over an `n × n` block: `n * n` positions from `(0, 0)` (42_zigzag R161). The hardware has `n = 8`
(R167). -/
def zzWalk (n : Nat) : List (Nat × Nat) :=
  zzWalkFrom n (n * n) (0, 0)

end Sys2Proof.Machine
end

