-- ==== Sys2Proof/Syntax.lean ====
section
/-! DEFINITION. The instructions: the 24 commands of 30_encoding R93 and the 348 bit-stream symbols of 30_encoding R98,
one constructor per row of opcode_table.json, in the table's order. -/

namespace Sys2Proof

/-- The instructions of the CORE. A command is a word the host issues; a symbol is a codeword of one of the four tables
with its literal bits `v`, read from a segment at its cursor (log 10). -/
inductive Instr where
  /-- `NOP`: does nothing but count (R262). -/
  | nop
  /-- `CLR`: starts a session; the way out of the faulted state (R263). -/
  | clr
  /-- `CFGQ`: sets `QUALITY` (R264). -/
  | cfgq (q : Nat)
  /-- `CFGG`: sets `CTRL.GREY` (R265). -/
  | cfgg (g : Bool)
  /-- `LDX`: takes the head of `XIN` into `XB` (R266). -/
  | ldx
  /-- `STX`: appends `XB` to `XOUT` (R267). -/
  | stx
  /-- `FDCT`: forward transform of `XB` (R124). -/
  | fdct
  /-- `IDCT`: inverse transform of `XB` (R125). -/
  | idct
  /-- `QNT`: quantizes `XB` into `QB` (R145). -/
  | qnt (L : Layer)
  /-- `DQT`: dequantizes `QB` into `XB` (R146). -/
  | dqt (L : Layer)
  /-- `ZZ`: zig-zag of `QB` into `ZQ` (R163). -/
  | zz
  /-- `IZZ`: inverse zig-zag of `ZQ` into `QB` (R164). -/
  | izz
  /-- `DCE`: differences `ZQ[0]` into `DIFF` (R172). -/
  | dce (L : Layer)
  /-- `DCD`: sums `DIFF` into `ZQ[0]` (R173). -/
  | dcd (L : Layer)
  /-- `RLE`: run-length codes `ZQ[1..63]` into `RL` (R181). -/
  | rle
  /-- `RLD`: expands `RL` into `ZQ[1..63]` (R183). -/
  | rld
  /-- `HEDC`: appends the DC symbol of `DIFF` (R209). -/
  | hedc (L : Layer)
  /-- `HEAC`: appends the AC symbols of `RL` (R210). -/
  | heac (L : Layer)
  /-- `HDDC`: decodes one DC symbol into `DIFF` (R211). -/
  | hddc (L : Layer)
  /-- `HDAC`: decodes the AC symbols of one block into `RL` (R212). -/
  | hdac (L : Layer)
  /-- `PACK`: appends the record of the segments to `BOUT` (R243). -/
  | pack
  /-- `SLICE`: cuts the head record of `BIN` into the segments (R244). -/
  | slice
  /-- `ENCBLK`: one block through the encode side (R270). -/
  | encblk (L : Layer)
  /-- `DECBLK`: one block through the decode side (R271). -/
  | decblk (L : Layer)
  -- the symbols of HTABLE[DC][LUM] (46_huffman_tables R232)
  | dcLumS0
  | dcLumS1 (v : BitVec 1)
  | dcLumS2 (v : BitVec 2)
  | dcLumS3 (v : BitVec 3)
  | dcLumS4 (v : BitVec 4)
  | dcLumS5 (v : BitVec 5)
  | dcLumS6 (v : BitVec 6)
  | dcLumS7 (v : BitVec 7)
  | dcLumS8 (v : BitVec 8)
  | dcLumS9 (v : BitVec 9)
  | dcLumS10 (v : BitVec 10)
  | dcLumS11 (v : BitVec 11)
  -- the symbols of HTABLE[DC][CHR] (46_huffman_tables R233)
  | dcChrS0
  | dcChrS1 (v : BitVec 1)
  | dcChrS2 (v : BitVec 2)
  | dcChrS3 (v : BitVec 3)
  | dcChrS4 (v : BitVec 4)
  | dcChrS5 (v : BitVec 5)
  | dcChrS6 (v : BitVec 6)
  | dcChrS7 (v : BitVec 7)
  | dcChrS8 (v : BitVec 8)
  | dcChrS9 (v : BitVec 9)
  | dcChrS10 (v : BitVec 10)
  | dcChrS11 (v : BitVec 11)
  -- the symbols of HTABLE[AC][LUM] (46_huffman_tables R234)
  | acLumEob
  | acLumR0S1 (v : BitVec 1)
  | acLumR0S2 (v : BitVec 2)
  | acLumR0S3 (v : BitVec 3)
  | acLumR0S4 (v : BitVec 4)
  | acLumR0S5 (v : BitVec 5)
  | acLumR0S6 (v : BitVec 6)
  | acLumR0S7 (v : BitVec 7)
  | acLumR0S8 (v : BitVec 8)
  | acLumR0S9 (v : BitVec 9)
  | acLumR0S10 (v : BitVec 10)
  | acLumR1S1 (v : BitVec 1)
  | acLumR1S2 (v : BitVec 2)
  | acLumR1S3 (v : BitVec 3)
  | acLumR1S4 (v : BitVec 4)
  | acLumR1S5 (v : BitVec 5)
  | acLumR1S6 (v : BitVec 6)
  | acLumR1S7 (v : BitVec 7)
  | acLumR1S8 (v : BitVec 8)
  | acLumR1S9 (v : BitVec 9)
  | acLumR1S10 (v : BitVec 10)
  | acLumR2S1 (v : BitVec 1)
  | acLumR2S2 (v : BitVec 2)
  | acLumR2S3 (v : BitVec 3)
  | acLumR2S4 (v : BitVec 4)
  | acLumR2S5 (v : BitVec 5)
  | acLumR2S6 (v : BitVec 6)
  | acLumR2S7 (v : BitVec 7)
  | acLumR2S8 (v : BitVec 8)
  | acLumR2S9 (v : BitVec 9)
  | acLumR2S10 (v : BitVec 10)
  | acLumR3S1 (v : BitVec 1)
  | acLumR3S2 (v : BitVec 2)
  | acLumR3S3 (v : BitVec 3)
  | acLumR3S4 (v : BitVec 4)
  | acLumR3S5 (v : BitVec 5)
  | acLumR3S6 (v : BitVec 6)
  | acLumR3S7 (v : BitVec 7)
  | acLumR3S8 (v : BitVec 8)
  | acLumR3S9 (v : BitVec 9)
  | acLumR3S10 (v : BitVec 10)
  | acLumR4S1 (v : BitVec 1)
  | acLumR4S2 (v : BitVec 2)
  | acLumR4S3 (v : BitVec 3)
  | acLumR4S4 (v : BitVec 4)
  | acLumR4S5 (v : BitVec 5)
  | acLumR4S6 (v : BitVec 6)
  | acLumR4S7 (v : BitVec 7)
  | acLumR4S8 (v : BitVec 8)
  | acLumR4S9 (v : BitVec 9)
  | acLumR4S10 (v : BitVec 10)
  | acLumR5S1 (v : BitVec 1)
  | acLumR5S2 (v : BitVec 2)
  | acLumR5S3 (v : BitVec 3)
  | acLumR5S4 (v : BitVec 4)
  | acLumR5S5 (v : BitVec 5)
  | acLumR5S6 (v : BitVec 6)
  | acLumR5S7 (v : BitVec 7)
  | acLumR5S8 (v : BitVec 8)
  | acLumR5S9 (v : BitVec 9)
  | acLumR5S10 (v : BitVec 10)
  | acLumR6S1 (v : BitVec 1)
  | acLumR6S2 (v : BitVec 2)
  | acLumR6S3 (v : BitVec 3)
  | acLumR6S4 (v : BitVec 4)
  | acLumR6S5 (v : BitVec 5)
  | acLumR6S6 (v : BitVec 6)
  | acLumR6S7 (v : BitVec 7)
  | acLumR6S8 (v : BitVec 8)
  | acLumR6S9 (v : BitVec 9)
  | acLumR6S10 (v : BitVec 10)
  | acLumR7S1 (v : BitVec 1)
  | acLumR7S2 (v : BitVec 2)
  | acLumR7S3 (v : BitVec 3)
  | acLumR7S4 (v : BitVec 4)
  | acLumR7S5 (v : BitVec 5)
  | acLumR7S6 (v : BitVec 6)
  | acLumR7S7 (v : BitVec 7)
  | acLumR7S8 (v : BitVec 8)
  | acLumR7S9 (v : BitVec 9)
  | acLumR7S10 (v : BitVec 10)
  | acLumR8S1 (v : BitVec 1)
  | acLumR8S2 (v : BitVec 2)
  | acLumR8S3 (v : BitVec 3)
  | acLumR8S4 (v : BitVec 4)
  | acLumR8S5 (v : BitVec 5)
  | acLumR8S6 (v : BitVec 6)
  | acLumR8S7 (v : BitVec 7)
  | acLumR8S8 (v : BitVec 8)
  | acLumR8S9 (v : BitVec 9)
  | acLumR8S10 (v : BitVec 10)
  | acLumR9S1 (v : BitVec 1)
  | acLumR9S2 (v : BitVec 2)
  | acLumR9S3 (v : BitVec 3)
  | acLumR9S4 (v : BitVec 4)
  | acLumR9S5 (v : BitVec 5)
  | acLumR9S6 (v : BitVec 6)
  | acLumR9S7 (v : BitVec 7)
  | acLumR9S8 (v : BitVec 8)
  | acLumR9S9 (v : BitVec 9)
  | acLumR9S10 (v : BitVec 10)
  | acLumR10S1 (v : BitVec 1)
  | acLumR10S2 (v : BitVec 2)
  | acLumR10S3 (v : BitVec 3)
  | acLumR10S4 (v : BitVec 4)
  | acLumR10S5 (v : BitVec 5)
  | acLumR10S6 (v : BitVec 6)
  | acLumR10S7 (v : BitVec 7)
  | acLumR10S8 (v : BitVec 8)
  | acLumR10S9 (v : BitVec 9)
  | acLumR10S10 (v : BitVec 10)
  | acLumR11S1 (v : BitVec 1)
  | acLumR11S2 (v : BitVec 2)
  | acLumR11S3 (v : BitVec 3)
  | acLumR11S4 (v : BitVec 4)
  | acLumR11S5 (v : BitVec 5)
  | acLumR11S6 (v : BitVec 6)
  | acLumR11S7 (v : BitVec 7)
  | acLumR11S8 (v : BitVec 8)
  | acLumR11S9 (v : BitVec 9)
  | acLumR11S10 (v : BitVec 10)
  | acLumR12S1 (v : BitVec 1)
  | acLumR12S2 (v : BitVec 2)
  | acLumR12S3 (v : BitVec 3)
  | acLumR12S4 (v : BitVec 4)
  | acLumR12S5 (v : BitVec 5)
  | acLumR12S6 (v : BitVec 6)
  | acLumR12S7 (v : BitVec 7)
  | acLumR12S8 (v : BitVec 8)
  | acLumR12S9 (v : BitVec 9)
  | acLumR12S10 (v : BitVec 10)
  | acLumR13S1 (v : BitVec 1)
  | acLumR13S2 (v : BitVec 2)
  | acLumR13S3 (v : BitVec 3)
  | acLumR13S4 (v : BitVec 4)
  | acLumR13S5 (v : BitVec 5)
  | acLumR13S6 (v : BitVec 6)
  | acLumR13S7 (v : BitVec 7)
  | acLumR13S8 (v : BitVec 8)
  | acLumR13S9 (v : BitVec 9)
  | acLumR13S10 (v : BitVec 10)
  | acLumR14S1 (v : BitVec 1)
  | acLumR14S2 (v : BitVec 2)
  | acLumR14S3 (v : BitVec 3)
  | acLumR14S4 (v : BitVec 4)
  | acLumR14S5 (v : BitVec 5)
  | acLumR14S6 (v : BitVec 6)
  | acLumR14S7 (v : BitVec 7)
  | acLumR14S8 (v : BitVec 8)
  | acLumR14S9 (v : BitVec 9)
  | acLumR14S10 (v : BitVec 10)
  | acLumZrl
  | acLumR15S1 (v : BitVec 1)
  | acLumR15S2 (v : BitVec 2)
  | acLumR15S3 (v : BitVec 3)
  | acLumR15S4 (v : BitVec 4)
  | acLumR15S5 (v : BitVec 5)
  | acLumR15S6 (v : BitVec 6)
  | acLumR15S7 (v : BitVec 7)
  | acLumR15S8 (v : BitVec 8)
  | acLumR15S9 (v : BitVec 9)
  | acLumR15S10 (v : BitVec 10)
  -- the symbols of HTABLE[AC][CHR] (46_huffman_tables R235)
  | acChrEob
  | acChrR0S1 (v : BitVec 1)
  | acChrR0S2 (v : BitVec 2)
  | acChrR0S3 (v : BitVec 3)
  | acChrR0S4 (v : BitVec 4)
  | acChrR0S5 (v : BitVec 5)
  | acChrR0S6 (v : BitVec 6)
  | acChrR0S7 (v : BitVec 7)
  | acChrR0S8 (v : BitVec 8)
  | acChrR0S9 (v : BitVec 9)
  | acChrR0S10 (v : BitVec 10)
  | acChrR1S1 (v : BitVec 1)
  | acChrR1S2 (v : BitVec 2)
  | acChrR1S3 (v : BitVec 3)
  | acChrR1S4 (v : BitVec 4)
  | acChrR1S5 (v : BitVec 5)
  | acChrR1S6 (v : BitVec 6)
  | acChrR1S7 (v : BitVec 7)
  | acChrR1S8 (v : BitVec 8)
  | acChrR1S9 (v : BitVec 9)
  | acChrR1S10 (v : BitVec 10)
  | acChrR2S1 (v : BitVec 1)
  | acChrR2S2 (v : BitVec 2)
  | acChrR2S3 (v : BitVec 3)
  | acChrR2S4 (v : BitVec 4)
  | acChrR2S5 (v : BitVec 5)
  | acChrR2S6 (v : BitVec 6)
  | acChrR2S7 (v : BitVec 7)
  | acChrR2S8 (v : BitVec 8)
  | acChrR2S9 (v : BitVec 9)
  | acChrR2S10 (v : BitVec 10)
  | acChrR3S1 (v : BitVec 1)
  | acChrR3S2 (v : BitVec 2)
  | acChrR3S3 (v : BitVec 3)
  | acChrR3S4 (v : BitVec 4)
  | acChrR3S5 (v : BitVec 5)
  | acChrR3S6 (v : BitVec 6)
  | acChrR3S7 (v : BitVec 7)
  | acChrR3S8 (v : BitVec 8)
  | acChrR3S9 (v : BitVec 9)
  | acChrR3S10 (v : BitVec 10)
  | acChrR4S1 (v : BitVec 1)
  | acChrR4S2 (v : BitVec 2)
  | acChrR4S3 (v : BitVec 3)
  | acChrR4S4 (v : BitVec 4)
  | acChrR4S5 (v : BitVec 5)
  | acChrR4S6 (v : BitVec 6)
  | acChrR4S7 (v : BitVec 7)
  | acChrR4S8 (v : BitVec 8)
  | acChrR4S9 (v : BitVec 9)
  | acChrR4S10 (v : BitVec 10)
  | acChrR5S1 (v : BitVec 1)
  | acChrR5S2 (v : BitVec 2)
  | acChrR5S3 (v : BitVec 3)
  | acChrR5S4 (v : BitVec 4)
  | acChrR5S5 (v : BitVec 5)
  | acChrR5S6 (v : BitVec 6)
  | acChrR5S7 (v : BitVec 7)
  | acChrR5S8 (v : BitVec 8)
  | acChrR5S9 (v : BitVec 9)
  | acChrR5S10 (v : BitVec 10)
  | acChrR6S1 (v : BitVec 1)
  | acChrR6S2 (v : BitVec 2)
  | acChrR6S3 (v : BitVec 3)
  | acChrR6S4 (v : BitVec 4)
  | acChrR6S5 (v : BitVec 5)
  | acChrR6S6 (v : BitVec 6)
  | acChrR6S7 (v : BitVec 7)
  | acChrR6S8 (v : BitVec 8)
  | acChrR6S9 (v : BitVec 9)
  | acChrR6S10 (v : BitVec 10)
  | acChrR7S1 (v : BitVec 1)
  | acChrR7S2 (v : BitVec 2)
  | acChrR7S3 (v : BitVec 3)
  | acChrR7S4 (v : BitVec 4)
  | acChrR7S5 (v : BitVec 5)
  | acChrR7S6 (v : BitVec 6)
  | acChrR7S7 (v : BitVec 7)
  | acChrR7S8 (v : BitVec 8)
  | acChrR7S9 (v : BitVec 9)
  | acChrR7S10 (v : BitVec 10)
  | acChrR8S1 (v : BitVec 1)
  | acChrR8S2 (v : BitVec 2)
  | acChrR8S3 (v : BitVec 3)
  | acChrR8S4 (v : BitVec 4)
  | acChrR8S5 (v : BitVec 5)
  | acChrR8S6 (v : BitVec 6)
  | acChrR8S7 (v : BitVec 7)
  | acChrR8S8 (v : BitVec 8)
  | acChrR8S9 (v : BitVec 9)
  | acChrR8S10 (v : BitVec 10)
  | acChrR9S1 (v : BitVec 1)
  | acChrR9S2 (v : BitVec 2)
  | acChrR9S3 (v : BitVec 3)
  | acChrR9S4 (v : BitVec 4)
  | acChrR9S5 (v : BitVec 5)
  | acChrR9S6 (v : BitVec 6)
  | acChrR9S7 (v : BitVec 7)
  | acChrR9S8 (v : BitVec 8)
  | acChrR9S9 (v : BitVec 9)
  | acChrR9S10 (v : BitVec 10)
  | acChrR10S1 (v : BitVec 1)
  | acChrR10S2 (v : BitVec 2)
  | acChrR10S3 (v : BitVec 3)
  | acChrR10S4 (v : BitVec 4)
  | acChrR10S5 (v : BitVec 5)
  | acChrR10S6 (v : BitVec 6)
  | acChrR10S7 (v : BitVec 7)
  | acChrR10S8 (v : BitVec 8)
  | acChrR10S9 (v : BitVec 9)
  | acChrR10S10 (v : BitVec 10)
  | acChrR11S1 (v : BitVec 1)
  | acChrR11S2 (v : BitVec 2)
  | acChrR11S3 (v : BitVec 3)
  | acChrR11S4 (v : BitVec 4)
  | acChrR11S5 (v : BitVec 5)
  | acChrR11S6 (v : BitVec 6)
  | acChrR11S7 (v : BitVec 7)
  | acChrR11S8 (v : BitVec 8)
  | acChrR11S9 (v : BitVec 9)
  | acChrR11S10 (v : BitVec 10)
  | acChrR12S1 (v : BitVec 1)
  | acChrR12S2 (v : BitVec 2)
  | acChrR12S3 (v : BitVec 3)
  | acChrR12S4 (v : BitVec 4)
  | acChrR12S5 (v : BitVec 5)
  | acChrR12S6 (v : BitVec 6)
  | acChrR12S7 (v : BitVec 7)
  | acChrR12S8 (v : BitVec 8)
  | acChrR12S9 (v : BitVec 9)
  | acChrR12S10 (v : BitVec 10)
  | acChrR13S1 (v : BitVec 1)
  | acChrR13S2 (v : BitVec 2)
  | acChrR13S3 (v : BitVec 3)
  | acChrR13S4 (v : BitVec 4)
  | acChrR13S5 (v : BitVec 5)
  | acChrR13S6 (v : BitVec 6)
  | acChrR13S7 (v : BitVec 7)
  | acChrR13S8 (v : BitVec 8)
  | acChrR13S9 (v : BitVec 9)
  | acChrR13S10 (v : BitVec 10)
  | acChrR14S1 (v : BitVec 1)
  | acChrR14S2 (v : BitVec 2)
  | acChrR14S3 (v : BitVec 3)
  | acChrR14S4 (v : BitVec 4)
  | acChrR14S5 (v : BitVec 5)
  | acChrR14S6 (v : BitVec 6)
  | acChrR14S7 (v : BitVec 7)
  | acChrR14S8 (v : BitVec 8)
  | acChrR14S9 (v : BitVec 9)
  | acChrR14S10 (v : BitVec 10)
  | acChrZrl
  | acChrR15S1 (v : BitVec 1)
  | acChrR15S2 (v : BitVec 2)
  | acChrR15S3 (v : BitVec 3)
  | acChrR15S4 (v : BitVec 4)
  | acChrR15S5 (v : BitVec 5)
  | acChrR15S6 (v : BitVec 6)
  | acChrR15S7 (v : BitVec 7)
  | acChrR15S8 (v : BitVec 8)
  | acChrR15S9 (v : BitVec 9)
  | acChrR15S10 (v : BitVec 10)
  deriving DecidableEq, Repr

end Sys2Proof
end

