-- ==== Sys2Proof/Machine/State.lean ====
section
/-! DEFINITION. The state of the CORE (10_state R20) over a number type, as plain data; the machine's state, which is that of the
exact numbers with the parameters and the command port beside it; and the state after reset (10_state R46). -/

namespace Sys2Proof.Machine

/-- A run-length pair `(run, value)` (10_state R25, 44_rle_coder R180). -/
structure Pair where
  run   : Nat
  value : Int
  deriving DecidableEq, Repr

/-- A bit-stream record (10_state R42, 47_packer R245): the byte-packed bit sequence and the two header fields the CORE
owns. The two are integers of any value here, since `SLICE` is the one that checks them. -/
structure Record where
  data          : List Byte
  remainingBits : Int
  sliceLengths  : List Int
  deriving DecidableEq, Repr

/-- The fault codes (60_exceptions R301). `none` is code 0, no fault since reset or `CLR`; codes 10 to 15 do not exist
(93_implementation_defined U4). -/
inductive ErrCode where
  | none
  | param
  | dcRange
  | acRange
  | noMatch
  | underrun
  | rleFormat
  | header
  | seq
  | illegal
  deriving DecidableEq, Repr

/-- The bit-stream memory: the four segment buffers `SEG[0..3]` and their decode cursors `CUR[0..3]` (10_state R37, R40,
20_memory R60). `SEGLEN[s]` is the length of `SEG[s]` and is not held a second time (10_state R35; log 11). -/
structure Memory where
  seg : Vector Bits 4
  cur : Vector Nat 4
  deriving DecidableEq, Repr

/-- The form every segment memory the machine makes has: no cursor beyond the end of its segment (10_state R37). -/
def Memory.wf (m : Memory) : Bool :=
  (List.finRange 4).all fun s => m.cur[s] ≤ m.seg[s].length

/-- The four segments empty, the cursors at 0 (10_state R46). -/
def Memory.empty : Memory :=
  ⟨Vector.replicate 4 [], Vector.replicate 4 0⟩

/-- The complete architectural state (10_state R20), for the number type `ν` of `XB`, the parameter `NUM` (00_scope R10). -/
structure CoreState (ν : Type) where
  /-- `XB` (R21). -/
  xb : Block ν
  /-- `QB` (R22). -/
  qb : Block Int
  /-- `ZQ[0..63]` (R23). -/
  zq : Vector Int 64
  /-- `DIFF` (R24). -/
  diff : Int
  /-- `RL` (R25). -/
  rl : List Pair
  /-- `PRED[LUM]` (R26). -/
  predLum : Int
  /-- `PRED[CHR]` (R26). -/
  predChr : Int
  /-- `VX`: `XB` valid (R28). -/
  vx : Bool
  /-- `VQ`: `QB` valid (R28). -/
  vq : Bool
  /-- `VZ0`: `ZQ[0]` valid (R28). -/
  vz0 : Bool
  /-- `VZA`: `ZQ[1..63]` valid (R28). -/
  vza : Bool
  /-- `VD`: `DIFF` valid (R28). -/
  vd : Bool
  /-- `VR`: `RL` valid (R28). -/
  vr : Bool
  /-- `FAULTED` (R29). -/
  faulted : Bool
  /-- `STATUS.ERR` (R33). -/
  err : ErrCode
  /-- `STATUS.ERRSEG` (R33). -/
  errSeg : Fin 4
  /-- `ERRINFO` (R34). -/
  errInfo : Int
  /-- `QUALITY` (R31). -/
  quality : Nat
  /-- `CTRL.GREY` (R32). -/
  grey : Bool
  /-- `REMBITS` (R36). -/
  remBits : Nat
  /-- `CMDCNT` (R27). -/
  cmdCnt : Nat
  /-- `SEG[0..3]` and `CUR[0..3]`, with `SEGLEN[0..3]` (R35, R37, R40). -/
  mem : Memory
  /-- `XIN`, head first (R41). -/
  xin : List (Block ν)
  /-- `XOUT`, head first (R41). -/
  xout : List (Block ν)
  /-- `BIN`, head first (R42). -/
  bin : List Record
  /-- `BOUT`, head first (R42). -/
  bout : List Record
  deriving DecidableEq, Repr

/-- The state of the machine: the architectural state on the exact numbers (log 1), and beside it two fields of the MODEL's
own. -/
structure State extends CoreState NUM where
  /-- The parameters this CORE was built with (00_scope R10). They are configuration, not state: nothing changes them (10_state
  R43; log 22). -/
  params : Params
  /-- The command words the host has issued and the CORE has not yet taken, oldest first (00_scope
  R19 (c), 10_state R27; log 9). -/
  cmdIn : List Word
  deriving DecidableEq, Repr

/-- The ways a step can stop the machine for good. There is none: every command completes, takes a fault of the CORE (a
next state), or is ignored (00_scope R18, 60_exceptions R316), so nobody raises one. -/
inductive Fault where
  deriving DecidableEq, Repr

/-- The ways the model can decline an instruction. -/
inductive Refusal where
  /-- Raised by `exec` for an instruction that has no meaning yet; the mnemonic is the opcode table's. Safe: the model stops
  where the hardware goes on. No arm of `exec` raises it any more. -/
  | notModelled (mnemonic : String)
  deriving DecidableEq, Repr

/-- What a step answers. -/
abbrev Result := Host.Outcome State Fault Refusal

/-- The architectural state right after hardware reset (10_state R46, 70_reset_and_hazards R340). `XB`, `QB`, `ZQ`, `DIFF` and `RL` are
unspecified there and read by no command before one has written them; the zeros and the empty list are a DESIGN CHOICE
(log 6). `zero` is the number 0. -/
def CoreState.reset {ν : Type} (zero : ν) : CoreState ν where
  xb := blockConst zero
  qb := blockConst 0
  zq := Vector.replicate 64 0
  diff := 0
  rl := []
  predLum := 0
  predChr := 0
  vx := false
  vq := false
  vz0 := false
  vza := false
  vd := false
  vr := false
  faulted := false
  err := .none
  errSeg := 0
  errInfo := 0
  quality := 0
  grey := false
  remBits := 0
  cmdCnt := 0
  mem := Memory.empty
  xin := []
  xout := []
  bin := []
  bout := []

/-- The state right after hardware reset (10_state R46), of a CORE with the default parameters (00_scope R10) to which no word
has been issued. -/
def State.reset : State :=
  { CoreState.reset NUM.zero with params := Params.default, cmdIn := [] }

/-- The same machine with its architectural state changed by `f`. -/
def State.over (f : CoreState NUM → CoreState NUM) (s : State) : State :=
  { s with toCoreState := f s.toCoreState }

/-- The same state over another number type, each number carried over by `f`. -/
def CoreState.mapNum {ν μ : Type} (f : ν → μ) (s : CoreState ν) : CoreState μ :=
  { s with xb := s.xb.map f, xin := s.xin.map fun b => b.map f, xout := s.xout.map fun b => b.map f }

end Sys2Proof.Machine
end

