-- ==== Sys2Proof/Machine/Flags.lean ====
section
/-! DEFINITION. The flags: the `STATUS` and `CTRL` words assembled from them, and what the writes of a data register do to
its valid flag (10_state R28, R33). There are no arithmetic flags (10_state R29). -/

namespace Sys2Proof.Machine

/-- The number of a fault code (60_exceptions R301). -/
def ErrCode.code : ErrCode → Nat
  | .none => 0
  | .param => 1
  | .dcRange => 2
  | .acRange => 3
  | .noMatch => 4
  | .underrun => 5
  | .rleFormat => 6
  | .header => 7
  | .seq => 8
  | .illegal => 9

/-- `STATUS` (10_state R33): bits 7, 14 and 15 read 0 (R39). -/
def CoreState.statusWord {ν : Type} (s : CoreState ν) : Word :=
  BitVec.ofNat 16 (s.err.code + 16 * s.faulted.toNat + 32 * s.errSeg.val + 256 * s.vx.toNat + 512 * s.vq.toNat
    + 1024 * s.vz0.toNat + 2048 * s.vza.toNat + 4096 * s.vd.toNat + 8192 * s.vr.toNat)

/-- `CTRL`: bit 0 is `GREY`, the others read 0 (10_state R30, R32, R39). -/
def CoreState.ctrlWord {ν : Type} (s : CoreState ν) : Word :=
  BitVec.ofNat 16 s.grey.toNat

/-- `XB <- b`, `VX <- 1` (10_state R28). -/
def writeXb {ν : Type} (b : Block ν) (s : CoreState ν) : CoreState ν :=
  { s with xb := b, vx := true }

/-- `QB <- b`, `VQ <- 1` (10_state R28). -/
def writeQb {ν : Type} (b : Block Int) (s : CoreState ν) : CoreState ν :=
  { s with qb := b, vq := true }

/-- `ZQ[0..63] <- z`, `VZ0 <- 1`, `VZA <- 1` (10_state R28). -/
def writeZq {ν : Type} (z : Vector Int 64) (s : CoreState ν) : CoreState ν :=
  { s with zq := z, vz0 := true, vza := true }

/-- `ZQ[0] <- v`, `VZ0 <- 1`; `ZQ[1..63]` and `VZA` untouched (10_state R28, 43_dc_coder R173). -/
def writeZq0 {ν : Type} (v : Int) (s : CoreState ν) : CoreState ν :=
  { s with zq := s.zq.set 0 v, vz0 := true }

/-- `ZQ[1..63] <- ac`, zeros where the list has ended, `VZA <- 1`; `ZQ[0]` and `VZ0` untouched (10_state R28, 44_rle_coder
R183). -/
def writeZqAc {ν : Type} (ac : List Int) (s : CoreState ν) : CoreState ν :=
  { s with zq := s.zq.mapIdx fun k x => if k = 0 then x else ac.getD (k - 1) 0, vza := true }

/-- `DIFF <- v`, `VD <- 1` (10_state R28). -/
def writeDiff {ν : Type} (v : Int) (s : CoreState ν) : CoreState ν :=
  { s with diff := v, vd := true }

/-- `RL <- l`, `VR <- 1` (10_state R28). -/
def writeRl {ν : Type} (l : List Pair) (s : CoreState ν) : CoreState ν :=
  { s with rl := l, vr := true }

/-- The six valid flags cleared (48_dispatcher R263). -/
def clearValid {ν : Type} (s : CoreState ν) : CoreState ν :=
  { s with vx := false, vq := false, vz0 := false, vza := false, vd := false, vr := false }

end Sys2Proof.Machine
end

