-- ==== Sys2Proof/Machine/Operands.lean ====
section
/-! DEFINITION. The operand forms: the layer operand with what it selects, and the literal bits of a symbol. -/

namespace Sys2Proof.Machine

/-- `seg(T, L) = 2·L + T` (00_scope R16, 45_huffman R191). -/
def segIx (ty : ValType) (l : Layer) : Fin 4 :=
  match l, ty with
  | .lum, .dc => 0
  | .lum, .ac => 1
  | .chr, .dc => 2
  | .chr, .ac => 3

/-- Layer `CHR` while `GREY = 1`: every command with that operand faults (10_state R32). -/
def CoreState.layerBlocked {ν : Type} (l : Layer) (s : CoreState ν) : Bool :=
  l = .chr && s.grey

/-- `NSEG`: 2 when greyscale, else 4 (00_scope R9, 10_state R32). -/
def CoreState.nseg {ν : Type} (s : CoreState ν) : Nat :=
  if s.grey then 2 else 4

/-- `PRED[L]` (10_state R26). -/
def CoreState.predOf {ν : Type} (l : Layer) (s : CoreState ν) : Int :=
  match l with
  | .lum => s.predLum
  | .chr => s.predChr

/-- `PRED[L] <- v` (10_state R26). -/
def setPred {ν : Type} (l : Layer) (v : Int) (s : CoreState ν) : CoreState ν :=
  match l with
  | .lum => { s with predLum := v }
  | .chr => { s with predChr := v }

/-- `category(v)`: the number of bits of `|v|` (45_huffman R201). -/
def category (v : Int) : Nat :=
  if v = 0 then 0 else Nat.log2 v.natAbs + 1

/-- The 0-based position of `v` in the band of its category (45_huffman R202, R203; 30_encoding R100). -/
def bandIndex (v : Int) : Nat :=
  if 0 ≤ v then v.toNat else (v + 2 ^ category v - 1).toNat

/-- `literal(v)`: the position in `category(v)` bits (45_huffman R203). -/
def literal (v : Int) : Bits :=
  binOf (category v) (bandIndex v)

/-- `unliteral(b, s)` with `k = val(b)`: the value at position `k` of `band(s)` (45_huffman R204). -/
def unliteral (size k : Nat) : Int :=
  if size = 0 then 0
  else if 2 ^ (size - 1) ≤ k then (k : Int)
  else (k : Int) - (2 ^ size - 1)

/-- EOB (44_rle_coder R180). -/
def eob : Pair := ⟨0, 0⟩

/-- ZRL (44_rle_coder R180). -/
def zrl : Pair := ⟨15, 0⟩

/-- The pair an AC symbol stands for (45_huffman R207). -/
def pairOf (y : Symbol) : Pair :=
  ⟨y.run, unliteral y.size y.lit⟩

end Sys2Proof.Machine
end

