-- ==== Sys2Proof/Machine/Ops.lean ====
section
/-! DEFINITION. The shared operations: the segment memory, taking a fault and leaving the faulted state, and the command
step around a command's rule. -/

namespace Sys2Proof.Machine

/-- `SEGLEN[s]` (10_state R35). -/
def Memory.len (m : Memory) (s : Fin 4) : Nat :=
  m.seg[s].length

/-- The bits of `SEG[s]` from the cursor `CUR[s]` to its end (10_state R37). -/
def Memory.rest (m : Memory) (s : Fin 4) : Bits :=
  m.seg[s].drop m.cur[s]

/-- The bit at `(s, p)`, where the segment has one (20_memory R60). -/
def Memory.bit? (m : Memory) (s : Fin 4) (p : Nat) : Option Bool :=
  m.seg[s][p]?

/-- `MemWrite((s, SEGLEN[s]), len(b), b)`: append; it never fails and moves no cursor (00_scope R15, 10_state R37,
20_memory R70). -/
def Memory.append (m : Memory) (s : Fin 4) (b : Bits) : Memory :=
  { m with seg := m.seg.set s (m.seg[s] ++ b) }

/-- `CUR[s] <- p` (10_state R37). -/
def Memory.setCur (m : Memory) (s : Fin 4) (p : Nat) : Memory :=
  { m with cur := m.cur.set s p }

/-- All four segments as given, the cursors 0 (47_packer R244). -/
def Memory.load (seg : Vector Bits 4) : Memory :=
  ⟨seg, Vector.replicate 4 0⟩

/-- A raised fault: its code, its `ERRINFO`, its `ERRSEG` (00_scope R15, 60_exceptions R301). -/
structure Raise where
  code : ErrCode
  info : Int
  seg  : Fin 4
  deriving DecidableEq, Repr

/-- What a command's rule answers: the state it leaves, or the fault it raises (00_scope R15). -/
abbrev Effect (ν : Type) := Except Raise (CoreState ν)

/-- `E_SEQ` with the command word (60_exceptions R313). -/
def seqFault (w : Nat) : Raise := ⟨.seq, w, 0⟩

/-- The code of a number 1 to 9, numbered from 0 (60_exceptions R301). -/
def errOfIndex (n : Fin 9) : ErrCode :=
  match n with
  | 0 => .param
  | 1 => .dcRange
  | 2 => .acRange
  | 3 => .noMatch
  | 4 => .underrun
  | 5 => .rleFormat
  | 6 => .header
  | 7 => .seq
  | 8 => .illegal

/-- The fault of an implementation that runs out of a limit: it must fault, with a code and a datum the spec leaves open
(93_implementation_defined U6, U17; log 5). With the default parameters nothing raises it. -/
def limitFault (c : Limit) (cmdCnt : Nat) : Raise :=
  ⟨errOfIndex (Config.limitCode c), Config.limitInfo c cmdCnt, 0⟩

/-- A rule's new state, where what it wrote is within the limit, else the limit's fault (log 5). -/
def checkLimit {ν : Type} (c : Limit) (within : Bool) (s : CoreState ν) : Effect ν :=
  if within then .ok s else .error (limitFault c s.cmdCnt)

/-- `MemWrite((k, SEGLEN[k]), len(b), b)` of a command: the append, within `SEGCAP` (00_scope R15, 20_memory R70). -/
def appendBits {ν : Type} (p : Params) (k : Fin 4) (b : Bits) (s : CoreState ν) : Effect ν :=
  checkLimit .segCap (p.holds (s.mem.len k + b.length)) { s with mem := s.mem.append k b }

/-- Taking a fault (60_exceptions R304): the state is the one before the command (with the command counted), and only the
fault record and `FAULTED` change. -/
def takeFault {ν : Type} (r : Raise) (s : CoreState ν) : CoreState ν :=
  { s with err := r.code, errInfo := r.info, errSeg := r.seg, faulted := true }

/-- Leaving the faulted state, and the session with it: what `CLR` writes (60_exceptions R306, 48_dispatcher R263).
`CMDCNT`, the port queues and the contents of the data registers stay (log 7). -/
def clearSession {ν : Type} (s : CoreState ν) : CoreState ν :=
  { clearValid s with
    faulted := false, err := .none, errSeg := 0, errInfo := 0, quality := 0, grey := false,
    predLum := 0, predChr := 0, mem := Memory.empty, remBits := 0 }

/-- `CMDCNT <- CMDCNT + 1` (10_state R27). -/
def countCommand {ν : Type} (s : CoreState ν) : CoreState ν :=
  { s with cmdCnt := s.cmdCnt + 1 }

/-- The command step around the rule of any command but `CLR` (48_dispatcher R260): count, ignore while `FAULTED`, else
run the rule to completion or take the fault it raises. -/
def commandStep {ν : Type} (rule : CoreState ν → Effect ν) (s : CoreState ν) : CoreState ν :=
  let s1 := countCommand s
  if s1.faulted then s1
  else
    match rule s1 with
    | .ok t => t
    | .error r => takeFault r s1

/-- The command step in the machine: a next state in every state (00_scope R18). -/
def runCommand (rule : CoreState NUM → Effect NUM) (s : State) : Result :=
  .next (s.over (commandStep rule))

/-- One rule after another: the second on the state the first left, or the first's fault (48_dispatcher R270, R271). -/
def andThen {ν : Type} (e : Effect ν) (rule : CoreState ν → Effect ν) : Effect ν :=
  match e with
  | .ok s => rule s
  | .error r => .error r

end Sys2Proof.Machine
end

