-- ==== Sys2Proof/Machine/DcCoder.lean ====
section
/-! DEFINITION. The DC coder: differences of a sequence (43_dc_coder R170) and the commands `DCE` and `DCD` (R172, R173). -/

namespace Sys2Proof.Machine

/-- The differences of a sequence after the predecessor `p` (R170). -/
def differencesFrom (p : Int) : List Int → List Int
  | [] => []
  | v :: t => (v - p) :: differencesFrom v t

/-- `encode_differential(seq)`: the first element itself, then each minus its predecessor (R170). -/
def encodeDifferential : List Int → List Int
  | [] => []
  | v :: t => v :: differencesFrom v t

/-- The running sums of a sequence from `p` (R170). -/
def sumsFrom (p : Int) : List Int → List Int
  | [] => []
  | d :: t => (p + d) :: sumsFrom (p + d) t

/-- `decode_differential(d)`: the prefix sums (R170). -/
def decodeDifferential (d : List Int) : List Int :=
  sumsFrom 0 d

/-- The rule of `DCE L` (R172). -/
def ruleDce {ν : Type} (p : Params) (l : Layer) (s : CoreState ν) : Effect ν :=
  if s.layerBlocked l then .error (seqFault (0x1800 + l.code))
  else if s.vz0 then
    let d := s.zq[0] - s.predOf l
    checkLimit .intWidth (p.fits d) (setPred l s.zq[0] (writeDiff d s))
  else .error (seqFault (0x1800 + l.code))

/-- `DCE L` (R172). -/
def execDce (l : Layer) (s : State) : Result :=
  runCommand (ruleDce s.params l) s

/-- The rule of `DCD L` (R173). -/
def ruleDcd {ν : Type} (p : Params) (l : Layer) (s : CoreState ν) : Effect ν :=
  if s.layerBlocked l then .error (seqFault (0x1900 + l.code))
  else if s.vd then
    let v := s.predOf l + s.diff
    checkLimit .intWidth (p.fits v) (setPred l v (writeZq0 v s))
  else .error (seqFault (0x1900 + l.code))

/-- `DCD L` (R173). -/
def execDcd (l : Layer) (s : State) : Result :=
  runCommand (ruleDcd s.params l) s

end Sys2Proof.Machine
end

