-- ==== Sys2Proof/WellFormed.lean ====
section
/-! DEFINITION. Which instructions have an encoding. -/

namespace Sys2Proof

/-- The one field whose type holds more than its encoding does is `CFGQ`'s quality: an unsigned integer `0..127`
(30_encoding R91, R92). Whether it is a legal quality is not part of decoding (R92). Every other operand's type is
exactly its field. -/
def Instr.wellFormed : Instr → Bool
  | .cfgq q => q < 128
  | _ => true

end Sys2Proof
end

