-- ==== Sys2Proof/Decode.lean ====
section
/-! DEFINITION. The decoder of command words (30_encoding R90 to R94), the decoder of bit-stream symbols (45_huffman R206,
R207), the encoder of both, and the host's entry to them. Lean's compiler cannot build a constructor with a field beyond the
245th of a type, so the definitions that build such a symbol are marked noncomputable; the kernel evaluates them, and
nothing a step does uses them. -/

namespace Sys2Proof

open Sys2Proof.Machine

/-- Format `N`: the argument byte must be 0 (30_encoding R91). -/
def formatN (i : Instr) (arg : Nat) : Option Instr :=
  if arg = 0 then some i else none

/-- Format `L`: `ARG[7:1]` must be 0, `ARG[0]` is the layer (30_encoding R91, R92). -/
def formatL (f : Layer → Instr) (arg : Nat) : Option Instr :=
  if arg = 0 then some (f .lum) else if arg = 1 then some (f .chr) else none

/-- Format `G`: `ARG[7:1]` must be 0, `ARG[0]` is the grey flag (30_encoding R91, R92). -/
def formatG (f : Bool → Instr) (arg : Nat) : Option Instr :=
  if arg = 0 then some (f false) else if arg = 1 then some (f true) else none

/-- Format `Q`: `ARG[7]` must be 0, `ARG[6:0]` is the quality, `0..127` (30_encoding R91, R92). -/
def formatQ (f : Nat → Instr) (arg : Nat) : Option Instr :=
  if arg < 128 then some (f arg) else none

/-- The decoder of command words, by opcode `w[15:8]` and argument `w[7:0]`: the command, or `none` where the word is
reserved (30_encoding R93, R94). -/
def decodeWord (w : Word) : Option Instr :=
  let arg := w.toNat % 256
  match w.toNat / 256 with
  | 0x00 => formatN .nop arg
  | 0x01 => formatN .clr arg
  | 0x02 => formatQ .cfgq arg
  | 0x03 => formatG .cfgg arg
  | 0x08 => formatN .ldx arg
  | 0x09 => formatN .stx arg
  | 0x10 => formatN .fdct arg
  | 0x11 => formatN .idct arg
  | 0x12 => formatL .qnt arg
  | 0x13 => formatL .dqt arg
  | 0x14 => formatN .zz arg
  | 0x15 => formatN .izz arg
  | 0x18 => formatL .dce arg
  | 0x19 => formatL .dcd arg
  | 0x1A => formatN .rle arg
  | 0x1B => formatN .rld arg
  | 0x20 => formatL .hedc arg
  | 0x21 => formatL .heac arg
  | 0x22 => formatL .hddc arg
  | 0x23 => formatL .hdac arg
  | 0x28 => formatN .pack arg
  | 0x29 => formatN .slice arg
  | 0x30 => formatL .encblk arg
  | 0x31 => formatL .decblk arg
  | _ => none

/-- The word of a command; `none` for a bit-stream symbol, which has no command word (30_encoding R93). -/
def Instr.word? : Instr → Option Word
  | .nop => some 0x0000#16
  | .clr => some 0x0100#16
  | .cfgq q => some (BitVec.ofNat 16 (0x0200 + q))
  | .cfgg g => some (BitVec.ofNat 16 (0x0300 + g.toNat))
  | .ldx => some 0x0800#16
  | .stx => some 0x0900#16
  | .fdct => some 0x1000#16
  | .idct => some 0x1100#16
  | .qnt l => some (BitVec.ofNat 16 (0x1200 + l.code))
  | .dqt l => some (BitVec.ofNat 16 (0x1300 + l.code))
  | .zz => some 0x1400#16
  | .izz => some 0x1500#16
  | .dce l => some (BitVec.ofNat 16 (0x1800 + l.code))
  | .dcd l => some (BitVec.ofNat 16 (0x1900 + l.code))
  | .rle => some 0x1A00#16
  | .rld => some 0x1B00#16
  | .hedc l => some (BitVec.ofNat 16 (0x2000 + l.code))
  | .heac l => some (BitVec.ofNat 16 (0x2100 + l.code))
  | .hddc l => some (BitVec.ofNat 16 (0x2200 + l.code))
  | .hdac l => some (BitVec.ofNat 16 (0x2300 + l.code))
  | .pack => some 0x2800#16
  | .slice => some 0x2900#16
  | .encblk l => some (BitVec.ofNat 16 (0x3000 + l.code))
  | .decblk l => some (BitVec.ofNat 16 (0x3100 + l.code))
  | _ => none

/-- What a bit-stream symbol says; `none` for a command (30_encoding R98). -/
def Instr.symbol? : Instr → Option Symbol
  | .nop => none
  | .clr => none
  | .cfgq _ => none
  | .cfgg _ => none
  | .ldx => none
  | .stx => none
  | .fdct => none
  | .idct => none
  | .qnt _ => none
  | .dqt _ => none
  | .zz => none
  | .izz => none
  | .dce _ => none
  | .dcd _ => none
  | .rle => none
  | .rld => none
  | .hedc _ => none
  | .heac _ => none
  | .hddc _ => none
  | .hdac _ => none
  | .pack => none
  | .slice => none
  | .encblk _ => none
  | .decblk _ => none
  | .dcLumS0 => some ⟨.dc, .lum, 0, 0, 0⟩
  | .dcLumS1 v => some ⟨.dc, .lum, 0, 1, v.toNat⟩
  | .dcLumS2 v => some ⟨.dc, .lum, 0, 2, v.toNat⟩
  | .dcLumS3 v => some ⟨.dc, .lum, 0, 3, v.toNat⟩
  | .dcLumS4 v => some ⟨.dc, .lum, 0, 4, v.toNat⟩
  | .dcLumS5 v => some ⟨.dc, .lum, 0, 5, v.toNat⟩
  | .dcLumS6 v => some ⟨.dc, .lum, 0, 6, v.toNat⟩
  | .dcLumS7 v => some ⟨.dc, .lum, 0, 7, v.toNat⟩
  | .dcLumS8 v => some ⟨.dc, .lum, 0, 8, v.toNat⟩
  | .dcLumS9 v => some ⟨.dc, .lum, 0, 9, v.toNat⟩
  | .dcLumS10 v => some ⟨.dc, .lum, 0, 10, v.toNat⟩
  | .dcLumS11 v => some ⟨.dc, .lum, 0, 11, v.toNat⟩
  | .dcChrS0 => some ⟨.dc, .chr, 0, 0, 0⟩
  | .dcChrS1 v => some ⟨.dc, .chr, 0, 1, v.toNat⟩
  | .dcChrS2 v => some ⟨.dc, .chr, 0, 2, v.toNat⟩
  | .dcChrS3 v => some ⟨.dc, .chr, 0, 3, v.toNat⟩
  | .dcChrS4 v => some ⟨.dc, .chr, 0, 4, v.toNat⟩
  | .dcChrS5 v => some ⟨.dc, .chr, 0, 5, v.toNat⟩
  | .dcChrS6 v => some ⟨.dc, .chr, 0, 6, v.toNat⟩
  | .dcChrS7 v => some ⟨.dc, .chr, 0, 7, v.toNat⟩
  | .dcChrS8 v => some ⟨.dc, .chr, 0, 8, v.toNat⟩
  | .dcChrS9 v => some ⟨.dc, .chr, 0, 9, v.toNat⟩
  | .dcChrS10 v => some ⟨.dc, .chr, 0, 10, v.toNat⟩
  | .dcChrS11 v => some ⟨.dc, .chr, 0, 11, v.toNat⟩
  | .acLumEob => some ⟨.ac, .lum, 0, 0, 0⟩
  | .acLumR0S1 v => some ⟨.ac, .lum, 0, 1, v.toNat⟩
  | .acLumR0S2 v => some ⟨.ac, .lum, 0, 2, v.toNat⟩
  | .acLumR0S3 v => some ⟨.ac, .lum, 0, 3, v.toNat⟩
  | .acLumR0S4 v => some ⟨.ac, .lum, 0, 4, v.toNat⟩
  | .acLumR0S5 v => some ⟨.ac, .lum, 0, 5, v.toNat⟩
  | .acLumR0S6 v => some ⟨.ac, .lum, 0, 6, v.toNat⟩
  | .acLumR0S7 v => some ⟨.ac, .lum, 0, 7, v.toNat⟩
  | .acLumR0S8 v => some ⟨.ac, .lum, 0, 8, v.toNat⟩
  | .acLumR0S9 v => some ⟨.ac, .lum, 0, 9, v.toNat⟩
  | .acLumR0S10 v => some ⟨.ac, .lum, 0, 10, v.toNat⟩
  | .acLumR1S1 v => some ⟨.ac, .lum, 1, 1, v.toNat⟩
  | .acLumR1S2 v => some ⟨.ac, .lum, 1, 2, v.toNat⟩
  | .acLumR1S3 v => some ⟨.ac, .lum, 1, 3, v.toNat⟩
  | .acLumR1S4 v => some ⟨.ac, .lum, 1, 4, v.toNat⟩
  | .acLumR1S5 v => some ⟨.ac, .lum, 1, 5, v.toNat⟩
  | .acLumR1S6 v => some ⟨.ac, .lum, 1, 6, v.toNat⟩
  | .acLumR1S7 v => some ⟨.ac, .lum, 1, 7, v.toNat⟩
  | .acLumR1S8 v => some ⟨.ac, .lum, 1, 8, v.toNat⟩
  | .acLumR1S9 v => some ⟨.ac, .lum, 1, 9, v.toNat⟩
  | .acLumR1S10 v => some ⟨.ac, .lum, 1, 10, v.toNat⟩
  | .acLumR2S1 v => some ⟨.ac, .lum, 2, 1, v.toNat⟩
  | .acLumR2S2 v => some ⟨.ac, .lum, 2, 2, v.toNat⟩
  | .acLumR2S3 v => some ⟨.ac, .lum, 2, 3, v.toNat⟩
  | .acLumR2S4 v => some ⟨.ac, .lum, 2, 4, v.toNat⟩
  | .acLumR2S5 v => some ⟨.ac, .lum, 2, 5, v.toNat⟩
  | .acLumR2S6 v => some ⟨.ac, .lum, 2, 6, v.toNat⟩
  | .acLumR2S7 v => some ⟨.ac, .lum, 2, 7, v.toNat⟩
  | .acLumR2S8 v => some ⟨.ac, .lum, 2, 8, v.toNat⟩
  | .acLumR2S9 v => some ⟨.ac, .lum, 2, 9, v.toNat⟩
  | .acLumR2S10 v => some ⟨.ac, .lum, 2, 10, v.toNat⟩
  | .acLumR3S1 v => some ⟨.ac, .lum, 3, 1, v.toNat⟩
  | .acLumR3S2 v => some ⟨.ac, .lum, 3, 2, v.toNat⟩
  | .acLumR3S3 v => some ⟨.ac, .lum, 3, 3, v.toNat⟩
  | .acLumR3S4 v => some ⟨.ac, .lum, 3, 4, v.toNat⟩
  | .acLumR3S5 v => some ⟨.ac, .lum, 3, 5, v.toNat⟩
  | .acLumR3S6 v => some ⟨.ac, .lum, 3, 6, v.toNat⟩
  | .acLumR3S7 v => some ⟨.ac, .lum, 3, 7, v.toNat⟩
  | .acLumR3S8 v => some ⟨.ac, .lum, 3, 8, v.toNat⟩
  | .acLumR3S9 v => some ⟨.ac, .lum, 3, 9, v.toNat⟩
  | .acLumR3S10 v => some ⟨.ac, .lum, 3, 10, v.toNat⟩
  | .acLumR4S1 v => some ⟨.ac, .lum, 4, 1, v.toNat⟩
  | .acLumR4S2 v => some ⟨.ac, .lum, 4, 2, v.toNat⟩
  | .acLumR4S3 v => some ⟨.ac, .lum, 4, 3, v.toNat⟩
  | .acLumR4S4 v => some ⟨.ac, .lum, 4, 4, v.toNat⟩
  | .acLumR4S5 v => some ⟨.ac, .lum, 4, 5, v.toNat⟩
  | .acLumR4S6 v => some ⟨.ac, .lum, 4, 6, v.toNat⟩
  | .acLumR4S7 v => some ⟨.ac, .lum, 4, 7, v.toNat⟩
  | .acLumR4S8 v => some ⟨.ac, .lum, 4, 8, v.toNat⟩
  | .acLumR4S9 v => some ⟨.ac, .lum, 4, 9, v.toNat⟩
  | .acLumR4S10 v => some ⟨.ac, .lum, 4, 10, v.toNat⟩
  | .acLumR5S1 v => some ⟨.ac, .lum, 5, 1, v.toNat⟩
  | .acLumR5S2 v => some ⟨.ac, .lum, 5, 2, v.toNat⟩
  | .acLumR5S3 v => some ⟨.ac, .lum, 5, 3, v.toNat⟩
  | .acLumR5S4 v => some ⟨.ac, .lum, 5, 4, v.toNat⟩
  | .acLumR5S5 v => some ⟨.ac, .lum, 5, 5, v.toNat⟩
  | .acLumR5S6 v => some ⟨.ac, .lum, 5, 6, v.toNat⟩
  | .acLumR5S7 v => some ⟨.ac, .lum, 5, 7, v.toNat⟩
  | .acLumR5S8 v => some ⟨.ac, .lum, 5, 8, v.toNat⟩
  | .acLumR5S9 v => some ⟨.ac, .lum, 5, 9, v.toNat⟩
  | .acLumR5S10 v => some ⟨.ac, .lum, 5, 10, v.toNat⟩
  | .acLumR6S1 v => some ⟨.ac, .lum, 6, 1, v.toNat⟩
  | .acLumR6S2 v => some ⟨.ac, .lum, 6, 2, v.toNat⟩
  | .acLumR6S3 v => some ⟨.ac, .lum, 6, 3, v.toNat⟩
  | .acLumR6S4 v => some ⟨.ac, .lum, 6, 4, v.toNat⟩
  | .acLumR6S5 v => some ⟨.ac, .lum, 6, 5, v.toNat⟩
  | .acLumR6S6 v => some ⟨.ac, .lum, 6, 6, v.toNat⟩
  | .acLumR6S7 v => some ⟨.ac, .lum, 6, 7, v.toNat⟩
  | .acLumR6S8 v => some ⟨.ac, .lum, 6, 8, v.toNat⟩
  | .acLumR6S9 v => some ⟨.ac, .lum, 6, 9, v.toNat⟩
  | .acLumR6S10 v => some ⟨.ac, .lum, 6, 10, v.toNat⟩
  | .acLumR7S1 v => some ⟨.ac, .lum, 7, 1, v.toNat⟩
  | .acLumR7S2 v => some ⟨.ac, .lum, 7, 2, v.toNat⟩
  | .acLumR7S3 v => some ⟨.ac, .lum, 7, 3, v.toNat⟩
  | .acLumR7S4 v => some ⟨.ac, .lum, 7, 4, v.toNat⟩
  | .acLumR7S5 v => some ⟨.ac, .lum, 7, 5, v.toNat⟩
  | .acLumR7S6 v => some ⟨.ac, .lum, 7, 6, v.toNat⟩
  | .acLumR7S7 v => some ⟨.ac, .lum, 7, 7, v.toNat⟩
  | .acLumR7S8 v => some ⟨.ac, .lum, 7, 8, v.toNat⟩
  | .acLumR7S9 v => some ⟨.ac, .lum, 7, 9, v.toNat⟩
  | .acLumR7S10 v => some ⟨.ac, .lum, 7, 10, v.toNat⟩
  | .acLumR8S1 v => some ⟨.ac, .lum, 8, 1, v.toNat⟩
  | .acLumR8S2 v => some ⟨.ac, .lum, 8, 2, v.toNat⟩
  | .acLumR8S3 v => some ⟨.ac, .lum, 8, 3, v.toNat⟩
  | .acLumR8S4 v => some ⟨.ac, .lum, 8, 4, v.toNat⟩
  | .acLumR8S5 v => some ⟨.ac, .lum, 8, 5, v.toNat⟩
  | .acLumR8S6 v => some ⟨.ac, .lum, 8, 6, v.toNat⟩
  | .acLumR8S7 v => some ⟨.ac, .lum, 8, 7, v.toNat⟩
  | .acLumR8S8 v => some ⟨.ac, .lum, 8, 8, v.toNat⟩
  | .acLumR8S9 v => some ⟨.ac, .lum, 8, 9, v.toNat⟩
  | .acLumR8S10 v => some ⟨.ac, .lum, 8, 10, v.toNat⟩
  | .acLumR9S1 v => some ⟨.ac, .lum, 9, 1, v.toNat⟩
  | .acLumR9S2 v => some ⟨.ac, .lum, 9, 2, v.toNat⟩
  | .acLumR9S3 v => some ⟨.ac, .lum, 9, 3, v.toNat⟩
  | .acLumR9S4 v => some ⟨.ac, .lum, 9, 4, v.toNat⟩
  | .acLumR9S5 v => some ⟨.ac, .lum, 9, 5, v.toNat⟩
  | .acLumR9S6 v => some ⟨.ac, .lum, 9, 6, v.toNat⟩
  | .acLumR9S7 v => some ⟨.ac, .lum, 9, 7, v.toNat⟩
  | .acLumR9S8 v => some ⟨.ac, .lum, 9, 8, v.toNat⟩
  | .acLumR9S9 v => some ⟨.ac, .lum, 9, 9, v.toNat⟩
  | .acLumR9S10 v => some ⟨.ac, .lum, 9, 10, v.toNat⟩
  | .acLumR10S1 v => some ⟨.ac, .lum, 10, 1, v.toNat⟩
  | .acLumR10S2 v => some ⟨.ac, .lum, 10, 2, v.toNat⟩
  | .acLumR10S3 v => some ⟨.ac, .lum, 10, 3, v.toNat⟩
  | .acLumR10S4 v => some ⟨.ac, .lum, 10, 4, v.toNat⟩
  | .acLumR10S5 v => some ⟨.ac, .lum, 10, 5, v.toNat⟩
  | .acLumR10S6 v => some ⟨.ac, .lum, 10, 6, v.toNat⟩
  | .acLumR10S7 v => some ⟨.ac, .lum, 10, 7, v.toNat⟩
  | .acLumR10S8 v => some ⟨.ac, .lum, 10, 8, v.toNat⟩
  | .acLumR10S9 v => some ⟨.ac, .lum, 10, 9, v.toNat⟩
  | .acLumR10S10 v => some ⟨.ac, .lum, 10, 10, v.toNat⟩
  | .acLumR11S1 v => some ⟨.ac, .lum, 11, 1, v.toNat⟩
  | .acLumR11S2 v => some ⟨.ac, .lum, 11, 2, v.toNat⟩
  | .acLumR11S3 v => some ⟨.ac, .lum, 11, 3, v.toNat⟩
  | .acLumR11S4 v => some ⟨.ac, .lum, 11, 4, v.toNat⟩
  | .acLumR11S5 v => some ⟨.ac, .lum, 11, 5, v.toNat⟩
  | .acLumR11S6 v => some ⟨.ac, .lum, 11, 6, v.toNat⟩
  | .acLumR11S7 v => some ⟨.ac, .lum, 11, 7, v.toNat⟩
  | .acLumR11S8 v => some ⟨.ac, .lum, 11, 8, v.toNat⟩
  | .acLumR11S9 v => some ⟨.ac, .lum, 11, 9, v.toNat⟩
  | .acLumR11S10 v => some ⟨.ac, .lum, 11, 10, v.toNat⟩
  | .acLumR12S1 v => some ⟨.ac, .lum, 12, 1, v.toNat⟩
  | .acLumR12S2 v => some ⟨.ac, .lum, 12, 2, v.toNat⟩
  | .acLumR12S3 v => some ⟨.ac, .lum, 12, 3, v.toNat⟩
  | .acLumR12S4 v => some ⟨.ac, .lum, 12, 4, v.toNat⟩
  | .acLumR12S5 v => some ⟨.ac, .lum, 12, 5, v.toNat⟩
  | .acLumR12S6 v => some ⟨.ac, .lum, 12, 6, v.toNat⟩
  | .acLumR12S7 v => some ⟨.ac, .lum, 12, 7, v.toNat⟩
  | .acLumR12S8 v => some ⟨.ac, .lum, 12, 8, v.toNat⟩
  | .acLumR12S9 v => some ⟨.ac, .lum, 12, 9, v.toNat⟩
  | .acLumR12S10 v => some ⟨.ac, .lum, 12, 10, v.toNat⟩
  | .acLumR13S1 v => some ⟨.ac, .lum, 13, 1, v.toNat⟩
  | .acLumR13S2 v => some ⟨.ac, .lum, 13, 2, v.toNat⟩
  | .acLumR13S3 v => some ⟨.ac, .lum, 13, 3, v.toNat⟩
  | .acLumR13S4 v => some ⟨.ac, .lum, 13, 4, v.toNat⟩
  | .acLumR13S5 v => some ⟨.ac, .lum, 13, 5, v.toNat⟩
  | .acLumR13S6 v => some ⟨.ac, .lum, 13, 6, v.toNat⟩
  | .acLumR13S7 v => some ⟨.ac, .lum, 13, 7, v.toNat⟩
  | .acLumR13S8 v => some ⟨.ac, .lum, 13, 8, v.toNat⟩
  | .acLumR13S9 v => some ⟨.ac, .lum, 13, 9, v.toNat⟩
  | .acLumR13S10 v => some ⟨.ac, .lum, 13, 10, v.toNat⟩
  | .acLumR14S1 v => some ⟨.ac, .lum, 14, 1, v.toNat⟩
  | .acLumR14S2 v => some ⟨.ac, .lum, 14, 2, v.toNat⟩
  | .acLumR14S3 v => some ⟨.ac, .lum, 14, 3, v.toNat⟩
  | .acLumR14S4 v => some ⟨.ac, .lum, 14, 4, v.toNat⟩
  | .acLumR14S5 v => some ⟨.ac, .lum, 14, 5, v.toNat⟩
  | .acLumR14S6 v => some ⟨.ac, .lum, 14, 6, v.toNat⟩
  | .acLumR14S7 v => some ⟨.ac, .lum, 14, 7, v.toNat⟩
  | .acLumR14S8 v => some ⟨.ac, .lum, 14, 8, v.toNat⟩
  | .acLumR14S9 v => some ⟨.ac, .lum, 14, 9, v.toNat⟩
  | .acLumR14S10 v => some ⟨.ac, .lum, 14, 10, v.toNat⟩
  | .acLumZrl => some ⟨.ac, .lum, 15, 0, 0⟩
  | .acLumR15S1 v => some ⟨.ac, .lum, 15, 1, v.toNat⟩
  | .acLumR15S2 v => some ⟨.ac, .lum, 15, 2, v.toNat⟩
  | .acLumR15S3 v => some ⟨.ac, .lum, 15, 3, v.toNat⟩
  | .acLumR15S4 v => some ⟨.ac, .lum, 15, 4, v.toNat⟩
  | .acLumR15S5 v => some ⟨.ac, .lum, 15, 5, v.toNat⟩
  | .acLumR15S6 v => some ⟨.ac, .lum, 15, 6, v.toNat⟩
  | .acLumR15S7 v => some ⟨.ac, .lum, 15, 7, v.toNat⟩
  | .acLumR15S8 v => some ⟨.ac, .lum, 15, 8, v.toNat⟩
  | .acLumR15S9 v => some ⟨.ac, .lum, 15, 9, v.toNat⟩
  | .acLumR15S10 v => some ⟨.ac, .lum, 15, 10, v.toNat⟩
  | .acChrEob => some ⟨.ac, .chr, 0, 0, 0⟩
  | .acChrR0S1 v => some ⟨.ac, .chr, 0, 1, v.toNat⟩
  | .acChrR0S2 v => some ⟨.ac, .chr, 0, 2, v.toNat⟩
  | .acChrR0S3 v => some ⟨.ac, .chr, 0, 3, v.toNat⟩
  | .acChrR0S4 v => some ⟨.ac, .chr, 0, 4, v.toNat⟩
  | .acChrR0S5 v => some ⟨.ac, .chr, 0, 5, v.toNat⟩
  | .acChrR0S6 v => some ⟨.ac, .chr, 0, 6, v.toNat⟩
  | .acChrR0S7 v => some ⟨.ac, .chr, 0, 7, v.toNat⟩
  | .acChrR0S8 v => some ⟨.ac, .chr, 0, 8, v.toNat⟩
  | .acChrR0S9 v => some ⟨.ac, .chr, 0, 9, v.toNat⟩
  | .acChrR0S10 v => some ⟨.ac, .chr, 0, 10, v.toNat⟩
  | .acChrR1S1 v => some ⟨.ac, .chr, 1, 1, v.toNat⟩
  | .acChrR1S2 v => some ⟨.ac, .chr, 1, 2, v.toNat⟩
  | .acChrR1S3 v => some ⟨.ac, .chr, 1, 3, v.toNat⟩
  | .acChrR1S4 v => some ⟨.ac, .chr, 1, 4, v.toNat⟩
  | .acChrR1S5 v => some ⟨.ac, .chr, 1, 5, v.toNat⟩
  | .acChrR1S6 v => some ⟨.ac, .chr, 1, 6, v.toNat⟩
  | .acChrR1S7 v => some ⟨.ac, .chr, 1, 7, v.toNat⟩
  | .acChrR1S8 v => some ⟨.ac, .chr, 1, 8, v.toNat⟩
  | .acChrR1S9 v => some ⟨.ac, .chr, 1, 9, v.toNat⟩
  | .acChrR1S10 v => some ⟨.ac, .chr, 1, 10, v.toNat⟩
  | .acChrR2S1 v => some ⟨.ac, .chr, 2, 1, v.toNat⟩
  | .acChrR2S2 v => some ⟨.ac, .chr, 2, 2, v.toNat⟩
  | .acChrR2S3 v => some ⟨.ac, .chr, 2, 3, v.toNat⟩
  | .acChrR2S4 v => some ⟨.ac, .chr, 2, 4, v.toNat⟩
  | .acChrR2S5 v => some ⟨.ac, .chr, 2, 5, v.toNat⟩
  | .acChrR2S6 v => some ⟨.ac, .chr, 2, 6, v.toNat⟩
  | .acChrR2S7 v => some ⟨.ac, .chr, 2, 7, v.toNat⟩
  | .acChrR2S8 v => some ⟨.ac, .chr, 2, 8, v.toNat⟩
  | .acChrR2S9 v => some ⟨.ac, .chr, 2, 9, v.toNat⟩
  | .acChrR2S10 v => some ⟨.ac, .chr, 2, 10, v.toNat⟩
  | .acChrR3S1 v => some ⟨.ac, .chr, 3, 1, v.toNat⟩
  | .acChrR3S2 v => some ⟨.ac, .chr, 3, 2, v.toNat⟩
  | .acChrR3S3 v => some ⟨.ac, .chr, 3, 3, v.toNat⟩
  | .acChrR3S4 v => some ⟨.ac, .chr, 3, 4, v.toNat⟩
  | .acChrR3S5 v => some ⟨.ac, .chr, 3, 5, v.toNat⟩
  | .acChrR3S6 v => some ⟨.ac, .chr, 3, 6, v.toNat⟩
  | .acChrR3S7 v => some ⟨.ac, .chr, 3, 7, v.toNat⟩
  | .acChrR3S8 v => some ⟨.ac, .chr, 3, 8, v.toNat⟩
  | .acChrR3S9 v => some ⟨.ac, .chr, 3, 9, v.toNat⟩
  | .acChrR3S10 v => some ⟨.ac, .chr, 3, 10, v.toNat⟩
  | .acChrR4S1 v => some ⟨.ac, .chr, 4, 1, v.toNat⟩
  | .acChrR4S2 v => some ⟨.ac, .chr, 4, 2, v.toNat⟩
  | .acChrR4S3 v => some ⟨.ac, .chr, 4, 3, v.toNat⟩
  | .acChrR4S4 v => some ⟨.ac, .chr, 4, 4, v.toNat⟩
  | .acChrR4S5 v => some ⟨.ac, .chr, 4, 5, v.toNat⟩
  | .acChrR4S6 v => some ⟨.ac, .chr, 4, 6, v.toNat⟩
  | .acChrR4S7 v => some ⟨.ac, .chr, 4, 7, v.toNat⟩
  | .acChrR4S8 v => some ⟨.ac, .chr, 4, 8, v.toNat⟩
  | .acChrR4S9 v => some ⟨.ac, .chr, 4, 9, v.toNat⟩
  | .acChrR4S10 v => some ⟨.ac, .chr, 4, 10, v.toNat⟩
  | .acChrR5S1 v => some ⟨.ac, .chr, 5, 1, v.toNat⟩
  | .acChrR5S2 v => some ⟨.ac, .chr, 5, 2, v.toNat⟩
  | .acChrR5S3 v => some ⟨.ac, .chr, 5, 3, v.toNat⟩
  | .acChrR5S4 v => some ⟨.ac, .chr, 5, 4, v.toNat⟩
  | .acChrR5S5 v => some ⟨.ac, .chr, 5, 5, v.toNat⟩
  | .acChrR5S6 v => some ⟨.ac, .chr, 5, 6, v.toNat⟩
  | .acChrR5S7 v => some ⟨.ac, .chr, 5, 7, v.toNat⟩
  | .acChrR5S8 v => some ⟨.ac, .chr, 5, 8, v.toNat⟩
  | .acChrR5S9 v => some ⟨.ac, .chr, 5, 9, v.toNat⟩
  | .acChrR5S10 v => some ⟨.ac, .chr, 5, 10, v.toNat⟩
  | .acChrR6S1 v => some ⟨.ac, .chr, 6, 1, v.toNat⟩
  | .acChrR6S2 v => some ⟨.ac, .chr, 6, 2, v.toNat⟩
  | .acChrR6S3 v => some ⟨.ac, .chr, 6, 3, v.toNat⟩
  | .acChrR6S4 v => some ⟨.ac, .chr, 6, 4, v.toNat⟩
  | .acChrR6S5 v => some ⟨.ac, .chr, 6, 5, v.toNat⟩
  | .acChrR6S6 v => some ⟨.ac, .chr, 6, 6, v.toNat⟩
  | .acChrR6S7 v => some ⟨.ac, .chr, 6, 7, v.toNat⟩
  | .acChrR6S8 v => some ⟨.ac, .chr, 6, 8, v.toNat⟩
  | .acChrR6S9 v => some ⟨.ac, .chr, 6, 9, v.toNat⟩
  | .acChrR6S10 v => some ⟨.ac, .chr, 6, 10, v.toNat⟩
  | .acChrR7S1 v => some ⟨.ac, .chr, 7, 1, v.toNat⟩
  | .acChrR7S2 v => some ⟨.ac, .chr, 7, 2, v.toNat⟩
  | .acChrR7S3 v => some ⟨.ac, .chr, 7, 3, v.toNat⟩
  | .acChrR7S4 v => some ⟨.ac, .chr, 7, 4, v.toNat⟩
  | .acChrR7S5 v => some ⟨.ac, .chr, 7, 5, v.toNat⟩
  | .acChrR7S6 v => some ⟨.ac, .chr, 7, 6, v.toNat⟩
  | .acChrR7S7 v => some ⟨.ac, .chr, 7, 7, v.toNat⟩
  | .acChrR7S8 v => some ⟨.ac, .chr, 7, 8, v.toNat⟩
  | .acChrR7S9 v => some ⟨.ac, .chr, 7, 9, v.toNat⟩
  | .acChrR7S10 v => some ⟨.ac, .chr, 7, 10, v.toNat⟩
  | .acChrR8S1 v => some ⟨.ac, .chr, 8, 1, v.toNat⟩
  | .acChrR8S2 v => some ⟨.ac, .chr, 8, 2, v.toNat⟩
  | .acChrR8S3 v => some ⟨.ac, .chr, 8, 3, v.toNat⟩
  | .acChrR8S4 v => some ⟨.ac, .chr, 8, 4, v.toNat⟩
  | .acChrR8S5 v => some ⟨.ac, .chr, 8, 5, v.toNat⟩
  | .acChrR8S6 v => some ⟨.ac, .chr, 8, 6, v.toNat⟩
  | .acChrR8S7 v => some ⟨.ac, .chr, 8, 7, v.toNat⟩
  | .acChrR8S8 v => some ⟨.ac, .chr, 8, 8, v.toNat⟩
  | .acChrR8S9 v => some ⟨.ac, .chr, 8, 9, v.toNat⟩
  | .acChrR8S10 v => some ⟨.ac, .chr, 8, 10, v.toNat⟩
  | .acChrR9S1 v => some ⟨.ac, .chr, 9, 1, v.toNat⟩
  | .acChrR9S2 v => some ⟨.ac, .chr, 9, 2, v.toNat⟩
  | .acChrR9S3 v => some ⟨.ac, .chr, 9, 3, v.toNat⟩
  | .acChrR9S4 v => some ⟨.ac, .chr, 9, 4, v.toNat⟩
  | .acChrR9S5 v => some ⟨.ac, .chr, 9, 5, v.toNat⟩
  | .acChrR9S6 v => some ⟨.ac, .chr, 9, 6, v.toNat⟩
  | .acChrR9S7 v => some ⟨.ac, .chr, 9, 7, v.toNat⟩
  | .acChrR9S8 v => some ⟨.ac, .chr, 9, 8, v.toNat⟩
  | .acChrR9S9 v => some ⟨.ac, .chr, 9, 9, v.toNat⟩
  | .acChrR9S10 v => some ⟨.ac, .chr, 9, 10, v.toNat⟩
  | .acChrR10S1 v => some ⟨.ac, .chr, 10, 1, v.toNat⟩
  | .acChrR10S2 v => some ⟨.ac, .chr, 10, 2, v.toNat⟩
  | .acChrR10S3 v => some ⟨.ac, .chr, 10, 3, v.toNat⟩
  | .acChrR10S4 v => some ⟨.ac, .chr, 10, 4, v.toNat⟩
  | .acChrR10S5 v => some ⟨.ac, .chr, 10, 5, v.toNat⟩
  | .acChrR10S6 v => some ⟨.ac, .chr, 10, 6, v.toNat⟩
  | .acChrR10S7 v => some ⟨.ac, .chr, 10, 7, v.toNat⟩
  | .acChrR10S8 v => some ⟨.ac, .chr, 10, 8, v.toNat⟩
  | .acChrR10S9 v => some ⟨.ac, .chr, 10, 9, v.toNat⟩
  | .acChrR10S10 v => some ⟨.ac, .chr, 10, 10, v.toNat⟩
  | .acChrR11S1 v => some ⟨.ac, .chr, 11, 1, v.toNat⟩
  | .acChrR11S2 v => some ⟨.ac, .chr, 11, 2, v.toNat⟩
  | .acChrR11S3 v => some ⟨.ac, .chr, 11, 3, v.toNat⟩
  | .acChrR11S4 v => some ⟨.ac, .chr, 11, 4, v.toNat⟩
  | .acChrR11S5 v => some ⟨.ac, .chr, 11, 5, v.toNat⟩
  | .acChrR11S6 v => some ⟨.ac, .chr, 11, 6, v.toNat⟩
  | .acChrR11S7 v => some ⟨.ac, .chr, 11, 7, v.toNat⟩
  | .acChrR11S8 v => some ⟨.ac, .chr, 11, 8, v.toNat⟩
  | .acChrR11S9 v => some ⟨.ac, .chr, 11, 9, v.toNat⟩
  | .acChrR11S10 v => some ⟨.ac, .chr, 11, 10, v.toNat⟩
  | .acChrR12S1 v => some ⟨.ac, .chr, 12, 1, v.toNat⟩
  | .acChrR12S2 v => some ⟨.ac, .chr, 12, 2, v.toNat⟩
  | .acChrR12S3 v => some ⟨.ac, .chr, 12, 3, v.toNat⟩
  | .acChrR12S4 v => some ⟨.ac, .chr, 12, 4, v.toNat⟩
  | .acChrR12S5 v => some ⟨.ac, .chr, 12, 5, v.toNat⟩
  | .acChrR12S6 v => some ⟨.ac, .chr, 12, 6, v.toNat⟩
  | .acChrR12S7 v => some ⟨.ac, .chr, 12, 7, v.toNat⟩
  | .acChrR12S8 v => some ⟨.ac, .chr, 12, 8, v.toNat⟩
  | .acChrR12S9 v => some ⟨.ac, .chr, 12, 9, v.toNat⟩
  | .acChrR12S10 v => some ⟨.ac, .chr, 12, 10, v.toNat⟩
  | .acChrR13S1 v => some ⟨.ac, .chr, 13, 1, v.toNat⟩
  | .acChrR13S2 v => some ⟨.ac, .chr, 13, 2, v.toNat⟩
  | .acChrR13S3 v => some ⟨.ac, .chr, 13, 3, v.toNat⟩
  | .acChrR13S4 v => some ⟨.ac, .chr, 13, 4, v.toNat⟩
  | .acChrR13S5 v => some ⟨.ac, .chr, 13, 5, v.toNat⟩
  | .acChrR13S6 v => some ⟨.ac, .chr, 13, 6, v.toNat⟩
  | .acChrR13S7 v => some ⟨.ac, .chr, 13, 7, v.toNat⟩
  | .acChrR13S8 v => some ⟨.ac, .chr, 13, 8, v.toNat⟩
  | .acChrR13S9 v => some ⟨.ac, .chr, 13, 9, v.toNat⟩
  | .acChrR13S10 v => some ⟨.ac, .chr, 13, 10, v.toNat⟩
  | .acChrR14S1 v => some ⟨.ac, .chr, 14, 1, v.toNat⟩
  | .acChrR14S2 v => some ⟨.ac, .chr, 14, 2, v.toNat⟩
  | .acChrR14S3 v => some ⟨.ac, .chr, 14, 3, v.toNat⟩
  | .acChrR14S4 v => some ⟨.ac, .chr, 14, 4, v.toNat⟩
  | .acChrR14S5 v => some ⟨.ac, .chr, 14, 5, v.toNat⟩
  | .acChrR14S6 v => some ⟨.ac, .chr, 14, 6, v.toNat⟩
  | .acChrR14S7 v => some ⟨.ac, .chr, 14, 7, v.toNat⟩
  | .acChrR14S8 v => some ⟨.ac, .chr, 14, 8, v.toNat⟩
  | .acChrR14S9 v => some ⟨.ac, .chr, 14, 9, v.toNat⟩
  | .acChrR14S10 v => some ⟨.ac, .chr, 14, 10, v.toNat⟩
  | .acChrZrl => some ⟨.ac, .chr, 15, 0, 0⟩
  | .acChrR15S1 v => some ⟨.ac, .chr, 15, 1, v.toNat⟩
  | .acChrR15S2 v => some ⟨.ac, .chr, 15, 2, v.toNat⟩
  | .acChrR15S3 v => some ⟨.ac, .chr, 15, 3, v.toNat⟩
  | .acChrR15S4 v => some ⟨.ac, .chr, 15, 4, v.toNat⟩
  | .acChrR15S5 v => some ⟨.ac, .chr, 15, 5, v.toNat⟩
  | .acChrR15S6 v => some ⟨.ac, .chr, 15, 6, v.toNat⟩
  | .acChrR15S7 v => some ⟨.ac, .chr, 15, 7, v.toNat⟩
  | .acChrR15S8 v => some ⟨.ac, .chr, 15, 8, v.toNat⟩
  | .acChrR15S9 v => some ⟨.ac, .chr, 15, 9, v.toNat⟩
  | .acChrR15S10 v => some ⟨.ac, .chr, 15, 10, v.toNat⟩

/-- The DC symbol of a size and literal in `HTABLE[DC][LUM]`. -/
def dcInstrLum (lit : Nat) : Nat → Option Instr
  | 0 => some .dcLumS0
  | 1 => some (.dcLumS1 (BitVec.ofNat 1 lit))
  | 2 => some (.dcLumS2 (BitVec.ofNat 2 lit))
  | 3 => some (.dcLumS3 (BitVec.ofNat 3 lit))
  | 4 => some (.dcLumS4 (BitVec.ofNat 4 lit))
  | 5 => some (.dcLumS5 (BitVec.ofNat 5 lit))
  | 6 => some (.dcLumS6 (BitVec.ofNat 6 lit))
  | 7 => some (.dcLumS7 (BitVec.ofNat 7 lit))
  | 8 => some (.dcLumS8 (BitVec.ofNat 8 lit))
  | 9 => some (.dcLumS9 (BitVec.ofNat 9 lit))
  | 10 => some (.dcLumS10 (BitVec.ofNat 10 lit))
  | 11 => some (.dcLumS11 (BitVec.ofNat 11 lit))
  | _ => none

/-- The DC symbol of a size and literal in `HTABLE[DC][CHR]`. -/
def dcInstrChr (lit : Nat) : Nat → Option Instr
  | 0 => some .dcChrS0
  | 1 => some (.dcChrS1 (BitVec.ofNat 1 lit))
  | 2 => some (.dcChrS2 (BitVec.ofNat 2 lit))
  | 3 => some (.dcChrS3 (BitVec.ofNat 3 lit))
  | 4 => some (.dcChrS4 (BitVec.ofNat 4 lit))
  | 5 => some (.dcChrS5 (BitVec.ofNat 5 lit))
  | 6 => some (.dcChrS6 (BitVec.ofNat 6 lit))
  | 7 => some (.dcChrS7 (BitVec.ofNat 7 lit))
  | 8 => some (.dcChrS8 (BitVec.ofNat 8 lit))
  | 9 => some (.dcChrS9 (BitVec.ofNat 9 lit))
  | 10 => some (.dcChrS10 (BitVec.ofNat 10 lit))
  | 11 => some (.dcChrS11 (BitVec.ofNat 11 lit))
  | _ => none

/-- The AC symbol of run 0, a size and a literal in `HTABLE[AC][LUM]`. -/
def acInstrLum0 (lit : Nat) : Nat → Option Instr
  | 0 => some .acLumEob
  | 1 => some (.acLumR0S1 (BitVec.ofNat 1 lit))
  | 2 => some (.acLumR0S2 (BitVec.ofNat 2 lit))
  | 3 => some (.acLumR0S3 (BitVec.ofNat 3 lit))
  | 4 => some (.acLumR0S4 (BitVec.ofNat 4 lit))
  | 5 => some (.acLumR0S5 (BitVec.ofNat 5 lit))
  | 6 => some (.acLumR0S6 (BitVec.ofNat 6 lit))
  | 7 => some (.acLumR0S7 (BitVec.ofNat 7 lit))
  | 8 => some (.acLumR0S8 (BitVec.ofNat 8 lit))
  | 9 => some (.acLumR0S9 (BitVec.ofNat 9 lit))
  | 10 => some (.acLumR0S10 (BitVec.ofNat 10 lit))
  | _ => none

/-- The AC symbol of run 1, a size and a literal in `HTABLE[AC][LUM]`. -/
def acInstrLum1 (lit : Nat) : Nat → Option Instr
  | 1 => some (.acLumR1S1 (BitVec.ofNat 1 lit))
  | 2 => some (.acLumR1S2 (BitVec.ofNat 2 lit))
  | 3 => some (.acLumR1S3 (BitVec.ofNat 3 lit))
  | 4 => some (.acLumR1S4 (BitVec.ofNat 4 lit))
  | 5 => some (.acLumR1S5 (BitVec.ofNat 5 lit))
  | 6 => some (.acLumR1S6 (BitVec.ofNat 6 lit))
  | 7 => some (.acLumR1S7 (BitVec.ofNat 7 lit))
  | 8 => some (.acLumR1S8 (BitVec.ofNat 8 lit))
  | 9 => some (.acLumR1S9 (BitVec.ofNat 9 lit))
  | 10 => some (.acLumR1S10 (BitVec.ofNat 10 lit))
  | _ => none

/-- The AC symbol of run 2, a size and a literal in `HTABLE[AC][LUM]`. -/
def acInstrLum2 (lit : Nat) : Nat → Option Instr
  | 1 => some (.acLumR2S1 (BitVec.ofNat 1 lit))
  | 2 => some (.acLumR2S2 (BitVec.ofNat 2 lit))
  | 3 => some (.acLumR2S3 (BitVec.ofNat 3 lit))
  | 4 => some (.acLumR2S4 (BitVec.ofNat 4 lit))
  | 5 => some (.acLumR2S5 (BitVec.ofNat 5 lit))
  | 6 => some (.acLumR2S6 (BitVec.ofNat 6 lit))
  | 7 => some (.acLumR2S7 (BitVec.ofNat 7 lit))
  | 8 => some (.acLumR2S8 (BitVec.ofNat 8 lit))
  | 9 => some (.acLumR2S9 (BitVec.ofNat 9 lit))
  | 10 => some (.acLumR2S10 (BitVec.ofNat 10 lit))
  | _ => none

/-- The AC symbol of run 3, a size and a literal in `HTABLE[AC][LUM]`. -/
def acInstrLum3 (lit : Nat) : Nat → Option Instr
  | 1 => some (.acLumR3S1 (BitVec.ofNat 1 lit))
  | 2 => some (.acLumR3S2 (BitVec.ofNat 2 lit))
  | 3 => some (.acLumR3S3 (BitVec.ofNat 3 lit))
  | 4 => some (.acLumR3S4 (BitVec.ofNat 4 lit))
  | 5 => some (.acLumR3S5 (BitVec.ofNat 5 lit))
  | 6 => some (.acLumR3S6 (BitVec.ofNat 6 lit))
  | 7 => some (.acLumR3S7 (BitVec.ofNat 7 lit))
  | 8 => some (.acLumR3S8 (BitVec.ofNat 8 lit))
  | 9 => some (.acLumR3S9 (BitVec.ofNat 9 lit))
  | 10 => some (.acLumR3S10 (BitVec.ofNat 10 lit))
  | _ => none

/-- The AC symbol of run 4, a size and a literal in `HTABLE[AC][LUM]`. -/
def acInstrLum4 (lit : Nat) : Nat → Option Instr
  | 1 => some (.acLumR4S1 (BitVec.ofNat 1 lit))
  | 2 => some (.acLumR4S2 (BitVec.ofNat 2 lit))
  | 3 => some (.acLumR4S3 (BitVec.ofNat 3 lit))
  | 4 => some (.acLumR4S4 (BitVec.ofNat 4 lit))
  | 5 => some (.acLumR4S5 (BitVec.ofNat 5 lit))
  | 6 => some (.acLumR4S6 (BitVec.ofNat 6 lit))
  | 7 => some (.acLumR4S7 (BitVec.ofNat 7 lit))
  | 8 => some (.acLumR4S8 (BitVec.ofNat 8 lit))
  | 9 => some (.acLumR4S9 (BitVec.ofNat 9 lit))
  | 10 => some (.acLumR4S10 (BitVec.ofNat 10 lit))
  | _ => none

/-- The AC symbol of run 5, a size and a literal in `HTABLE[AC][LUM]`. -/
def acInstrLum5 (lit : Nat) : Nat → Option Instr
  | 1 => some (.acLumR5S1 (BitVec.ofNat 1 lit))
  | 2 => some (.acLumR5S2 (BitVec.ofNat 2 lit))
  | 3 => some (.acLumR5S3 (BitVec.ofNat 3 lit))
  | 4 => some (.acLumR5S4 (BitVec.ofNat 4 lit))
  | 5 => some (.acLumR5S5 (BitVec.ofNat 5 lit))
  | 6 => some (.acLumR5S6 (BitVec.ofNat 6 lit))
  | 7 => some (.acLumR5S7 (BitVec.ofNat 7 lit))
  | 8 => some (.acLumR5S8 (BitVec.ofNat 8 lit))
  | 9 => some (.acLumR5S9 (BitVec.ofNat 9 lit))
  | 10 => some (.acLumR5S10 (BitVec.ofNat 10 lit))
  | _ => none

/-- The AC symbol of run 6, a size and a literal in `HTABLE[AC][LUM]`. -/
def acInstrLum6 (lit : Nat) : Nat → Option Instr
  | 1 => some (.acLumR6S1 (BitVec.ofNat 1 lit))
  | 2 => some (.acLumR6S2 (BitVec.ofNat 2 lit))
  | 3 => some (.acLumR6S3 (BitVec.ofNat 3 lit))
  | 4 => some (.acLumR6S4 (BitVec.ofNat 4 lit))
  | 5 => some (.acLumR6S5 (BitVec.ofNat 5 lit))
  | 6 => some (.acLumR6S6 (BitVec.ofNat 6 lit))
  | 7 => some (.acLumR6S7 (BitVec.ofNat 7 lit))
  | 8 => some (.acLumR6S8 (BitVec.ofNat 8 lit))
  | 9 => some (.acLumR6S9 (BitVec.ofNat 9 lit))
  | 10 => some (.acLumR6S10 (BitVec.ofNat 10 lit))
  | _ => none

/-- The AC symbol of run 7, a size and a literal in `HTABLE[AC][LUM]`. -/
def acInstrLum7 (lit : Nat) : Nat → Option Instr
  | 1 => some (.acLumR7S1 (BitVec.ofNat 1 lit))
  | 2 => some (.acLumR7S2 (BitVec.ofNat 2 lit))
  | 3 => some (.acLumR7S3 (BitVec.ofNat 3 lit))
  | 4 => some (.acLumR7S4 (BitVec.ofNat 4 lit))
  | 5 => some (.acLumR7S5 (BitVec.ofNat 5 lit))
  | 6 => some (.acLumR7S6 (BitVec.ofNat 6 lit))
  | 7 => some (.acLumR7S7 (BitVec.ofNat 7 lit))
  | 8 => some (.acLumR7S8 (BitVec.ofNat 8 lit))
  | 9 => some (.acLumR7S9 (BitVec.ofNat 9 lit))
  | 10 => some (.acLumR7S10 (BitVec.ofNat 10 lit))
  | _ => none

/-- The AC symbol of run 8, a size and a literal in `HTABLE[AC][LUM]`. -/
def acInstrLum8 (lit : Nat) : Nat → Option Instr
  | 1 => some (.acLumR8S1 (BitVec.ofNat 1 lit))
  | 2 => some (.acLumR8S2 (BitVec.ofNat 2 lit))
  | 3 => some (.acLumR8S3 (BitVec.ofNat 3 lit))
  | 4 => some (.acLumR8S4 (BitVec.ofNat 4 lit))
  | 5 => some (.acLumR8S5 (BitVec.ofNat 5 lit))
  | 6 => some (.acLumR8S6 (BitVec.ofNat 6 lit))
  | 7 => some (.acLumR8S7 (BitVec.ofNat 7 lit))
  | 8 => some (.acLumR8S8 (BitVec.ofNat 8 lit))
  | 9 => some (.acLumR8S9 (BitVec.ofNat 9 lit))
  | 10 => some (.acLumR8S10 (BitVec.ofNat 10 lit))
  | _ => none

/-- The AC symbol of run 9, a size and a literal in `HTABLE[AC][LUM]`. -/
def acInstrLum9 (lit : Nat) : Nat → Option Instr
  | 1 => some (.acLumR9S1 (BitVec.ofNat 1 lit))
  | 2 => some (.acLumR9S2 (BitVec.ofNat 2 lit))
  | 3 => some (.acLumR9S3 (BitVec.ofNat 3 lit))
  | 4 => some (.acLumR9S4 (BitVec.ofNat 4 lit))
  | 5 => some (.acLumR9S5 (BitVec.ofNat 5 lit))
  | 6 => some (.acLumR9S6 (BitVec.ofNat 6 lit))
  | 7 => some (.acLumR9S7 (BitVec.ofNat 7 lit))
  | 8 => some (.acLumR9S8 (BitVec.ofNat 8 lit))
  | 9 => some (.acLumR9S9 (BitVec.ofNat 9 lit))
  | 10 => some (.acLumR9S10 (BitVec.ofNat 10 lit))
  | _ => none

/-- The AC symbol of run 10, a size and a literal in `HTABLE[AC][LUM]`. -/
def acInstrLum10 (lit : Nat) : Nat → Option Instr
  | 1 => some (.acLumR10S1 (BitVec.ofNat 1 lit))
  | 2 => some (.acLumR10S2 (BitVec.ofNat 2 lit))
  | 3 => some (.acLumR10S3 (BitVec.ofNat 3 lit))
  | 4 => some (.acLumR10S4 (BitVec.ofNat 4 lit))
  | 5 => some (.acLumR10S5 (BitVec.ofNat 5 lit))
  | 6 => some (.acLumR10S6 (BitVec.ofNat 6 lit))
  | 7 => some (.acLumR10S7 (BitVec.ofNat 7 lit))
  | 8 => some (.acLumR10S8 (BitVec.ofNat 8 lit))
  | 9 => some (.acLumR10S9 (BitVec.ofNat 9 lit))
  | 10 => some (.acLumR10S10 (BitVec.ofNat 10 lit))
  | _ => none

/-- The AC symbol of run 11, a size and a literal in `HTABLE[AC][LUM]`. -/
def acInstrLum11 (lit : Nat) : Nat → Option Instr
  | 1 => some (.acLumR11S1 (BitVec.ofNat 1 lit))
  | 2 => some (.acLumR11S2 (BitVec.ofNat 2 lit))
  | 3 => some (.acLumR11S3 (BitVec.ofNat 3 lit))
  | 4 => some (.acLumR11S4 (BitVec.ofNat 4 lit))
  | 5 => some (.acLumR11S5 (BitVec.ofNat 5 lit))
  | 6 => some (.acLumR11S6 (BitVec.ofNat 6 lit))
  | 7 => some (.acLumR11S7 (BitVec.ofNat 7 lit))
  | 8 => some (.acLumR11S8 (BitVec.ofNat 8 lit))
  | 9 => some (.acLumR11S9 (BitVec.ofNat 9 lit))
  | 10 => some (.acLumR11S10 (BitVec.ofNat 10 lit))
  | _ => none

/-- The AC symbol of run 12, a size and a literal in `HTABLE[AC][LUM]`. -/
def acInstrLum12 (lit : Nat) : Nat → Option Instr
  | 1 => some (.acLumR12S1 (BitVec.ofNat 1 lit))
  | 2 => some (.acLumR12S2 (BitVec.ofNat 2 lit))
  | 3 => some (.acLumR12S3 (BitVec.ofNat 3 lit))
  | 4 => some (.acLumR12S4 (BitVec.ofNat 4 lit))
  | 5 => some (.acLumR12S5 (BitVec.ofNat 5 lit))
  | 6 => some (.acLumR12S6 (BitVec.ofNat 6 lit))
  | 7 => some (.acLumR12S7 (BitVec.ofNat 7 lit))
  | 8 => some (.acLumR12S8 (BitVec.ofNat 8 lit))
  | 9 => some (.acLumR12S9 (BitVec.ofNat 9 lit))
  | 10 => some (.acLumR12S10 (BitVec.ofNat 10 lit))
  | _ => none

/-- The AC symbol of run 13, a size and a literal in `HTABLE[AC][LUM]`. -/
def acInstrLum13 (lit : Nat) : Nat → Option Instr
  | 1 => some (.acLumR13S1 (BitVec.ofNat 1 lit))
  | 2 => some (.acLumR13S2 (BitVec.ofNat 2 lit))
  | 3 => some (.acLumR13S3 (BitVec.ofNat 3 lit))
  | 4 => some (.acLumR13S4 (BitVec.ofNat 4 lit))
  | 5 => some (.acLumR13S5 (BitVec.ofNat 5 lit))
  | 6 => some (.acLumR13S6 (BitVec.ofNat 6 lit))
  | 7 => some (.acLumR13S7 (BitVec.ofNat 7 lit))
  | 8 => some (.acLumR13S8 (BitVec.ofNat 8 lit))
  | 9 => some (.acLumR13S9 (BitVec.ofNat 9 lit))
  | 10 => some (.acLumR13S10 (BitVec.ofNat 10 lit))
  | _ => none

/-- The AC symbol of run 14, a size and a literal in `HTABLE[AC][LUM]`. -/
def acInstrLum14 (lit : Nat) : Nat → Option Instr
  | 1 => some (.acLumR14S1 (BitVec.ofNat 1 lit))
  | 2 => some (.acLumR14S2 (BitVec.ofNat 2 lit))
  | 3 => some (.acLumR14S3 (BitVec.ofNat 3 lit))
  | 4 => some (.acLumR14S4 (BitVec.ofNat 4 lit))
  | 5 => some (.acLumR14S5 (BitVec.ofNat 5 lit))
  | 6 => some (.acLumR14S6 (BitVec.ofNat 6 lit))
  | 7 => some (.acLumR14S7 (BitVec.ofNat 7 lit))
  | 8 => some (.acLumR14S8 (BitVec.ofNat 8 lit))
  | 9 => some (.acLumR14S9 (BitVec.ofNat 9 lit))
  | 10 => some (.acLumR14S10 (BitVec.ofNat 10 lit))
  | _ => none

/-- The AC symbol of run 15, a size and a literal in `HTABLE[AC][LUM]`. -/
def acInstrLum15 (lit : Nat) : Nat → Option Instr
  | 0 => some .acLumZrl
  | 1 => some (.acLumR15S1 (BitVec.ofNat 1 lit))
  | 2 => some (.acLumR15S2 (BitVec.ofNat 2 lit))
  | 3 => some (.acLumR15S3 (BitVec.ofNat 3 lit))
  | 4 => some (.acLumR15S4 (BitVec.ofNat 4 lit))
  | 5 => some (.acLumR15S5 (BitVec.ofNat 5 lit))
  | 6 => some (.acLumR15S6 (BitVec.ofNat 6 lit))
  | 7 => some (.acLumR15S7 (BitVec.ofNat 7 lit))
  | 8 => some (.acLumR15S8 (BitVec.ofNat 8 lit))
  | 9 => some (.acLumR15S9 (BitVec.ofNat 9 lit))
  | 10 => some (.acLumR15S10 (BitVec.ofNat 10 lit))
  | _ => none

/-- The AC symbol of run 0, a size and a literal in `HTABLE[AC][CHR]`. -/
def acInstrChr0 (lit : Nat) : Nat → Option Instr
  | 0 => some .acChrEob
  | 1 => some (.acChrR0S1 (BitVec.ofNat 1 lit))
  | 2 => some (.acChrR0S2 (BitVec.ofNat 2 lit))
  | 3 => some (.acChrR0S3 (BitVec.ofNat 3 lit))
  | 4 => some (.acChrR0S4 (BitVec.ofNat 4 lit))
  | 5 => some (.acChrR0S5 (BitVec.ofNat 5 lit))
  | 6 => some (.acChrR0S6 (BitVec.ofNat 6 lit))
  | 7 => some (.acChrR0S7 (BitVec.ofNat 7 lit))
  | 8 => some (.acChrR0S8 (BitVec.ofNat 8 lit))
  | 9 => some (.acChrR0S9 (BitVec.ofNat 9 lit))
  | 10 => some (.acChrR0S10 (BitVec.ofNat 10 lit))
  | _ => none

/-- The AC symbol of run 1, a size and a literal in `HTABLE[AC][CHR]`. -/
def acInstrChr1 (lit : Nat) : Nat → Option Instr
  | 1 => some (.acChrR1S1 (BitVec.ofNat 1 lit))
  | 2 => some (.acChrR1S2 (BitVec.ofNat 2 lit))
  | 3 => some (.acChrR1S3 (BitVec.ofNat 3 lit))
  | 4 => some (.acChrR1S4 (BitVec.ofNat 4 lit))
  | 5 => some (.acChrR1S5 (BitVec.ofNat 5 lit))
  | 6 => some (.acChrR1S6 (BitVec.ofNat 6 lit))
  | 7 => some (.acChrR1S7 (BitVec.ofNat 7 lit))
  | 8 => some (.acChrR1S8 (BitVec.ofNat 8 lit))
  | 9 => some (.acChrR1S9 (BitVec.ofNat 9 lit))
  | 10 => some (.acChrR1S10 (BitVec.ofNat 10 lit))
  | _ => none

/-- The AC symbol of run 2, a size and a literal in `HTABLE[AC][CHR]`. -/
def acInstrChr2 (lit : Nat) : Nat → Option Instr
  | 1 => some (.acChrR2S1 (BitVec.ofNat 1 lit))
  | 2 => some (.acChrR2S2 (BitVec.ofNat 2 lit))
  | 3 => some (.acChrR2S3 (BitVec.ofNat 3 lit))
  | 4 => some (.acChrR2S4 (BitVec.ofNat 4 lit))
  | 5 => some (.acChrR2S5 (BitVec.ofNat 5 lit))
  | 6 => some (.acChrR2S6 (BitVec.ofNat 6 lit))
  | 7 => some (.acChrR2S7 (BitVec.ofNat 7 lit))
  | 8 => some (.acChrR2S8 (BitVec.ofNat 8 lit))
  | 9 => some (.acChrR2S9 (BitVec.ofNat 9 lit))
  | 10 => some (.acChrR2S10 (BitVec.ofNat 10 lit))
  | _ => none

/-- The AC symbol of run 3, a size and a literal in `HTABLE[AC][CHR]`. -/
noncomputable def acInstrChr3 (lit : Nat) : Nat → Option Instr
  | 1 => some (.acChrR3S1 (BitVec.ofNat 1 lit))
  | 2 => some (.acChrR3S2 (BitVec.ofNat 2 lit))
  | 3 => some (.acChrR3S3 (BitVec.ofNat 3 lit))
  | 4 => some (.acChrR3S4 (BitVec.ofNat 4 lit))
  | 5 => some (.acChrR3S5 (BitVec.ofNat 5 lit))
  | 6 => some (.acChrR3S6 (BitVec.ofNat 6 lit))
  | 7 => some (.acChrR3S7 (BitVec.ofNat 7 lit))
  | 8 => some (.acChrR3S8 (BitVec.ofNat 8 lit))
  | 9 => some (.acChrR3S9 (BitVec.ofNat 9 lit))
  | 10 => some (.acChrR3S10 (BitVec.ofNat 10 lit))
  | _ => none

/-- The AC symbol of run 4, a size and a literal in `HTABLE[AC][CHR]`. -/
noncomputable def acInstrChr4 (lit : Nat) : Nat → Option Instr
  | 1 => some (.acChrR4S1 (BitVec.ofNat 1 lit))
  | 2 => some (.acChrR4S2 (BitVec.ofNat 2 lit))
  | 3 => some (.acChrR4S3 (BitVec.ofNat 3 lit))
  | 4 => some (.acChrR4S4 (BitVec.ofNat 4 lit))
  | 5 => some (.acChrR4S5 (BitVec.ofNat 5 lit))
  | 6 => some (.acChrR4S6 (BitVec.ofNat 6 lit))
  | 7 => some (.acChrR4S7 (BitVec.ofNat 7 lit))
  | 8 => some (.acChrR4S8 (BitVec.ofNat 8 lit))
  | 9 => some (.acChrR4S9 (BitVec.ofNat 9 lit))
  | 10 => some (.acChrR4S10 (BitVec.ofNat 10 lit))
  | _ => none

/-- The AC symbol of run 5, a size and a literal in `HTABLE[AC][CHR]`. -/
noncomputable def acInstrChr5 (lit : Nat) : Nat → Option Instr
  | 1 => some (.acChrR5S1 (BitVec.ofNat 1 lit))
  | 2 => some (.acChrR5S2 (BitVec.ofNat 2 lit))
  | 3 => some (.acChrR5S3 (BitVec.ofNat 3 lit))
  | 4 => some (.acChrR5S4 (BitVec.ofNat 4 lit))
  | 5 => some (.acChrR5S5 (BitVec.ofNat 5 lit))
  | 6 => some (.acChrR5S6 (BitVec.ofNat 6 lit))
  | 7 => some (.acChrR5S7 (BitVec.ofNat 7 lit))
  | 8 => some (.acChrR5S8 (BitVec.ofNat 8 lit))
  | 9 => some (.acChrR5S9 (BitVec.ofNat 9 lit))
  | 10 => some (.acChrR5S10 (BitVec.ofNat 10 lit))
  | _ => none

/-- The AC symbol of run 6, a size and a literal in `HTABLE[AC][CHR]`. -/
noncomputable def acInstrChr6 (lit : Nat) : Nat → Option Instr
  | 1 => some (.acChrR6S1 (BitVec.ofNat 1 lit))
  | 2 => some (.acChrR6S2 (BitVec.ofNat 2 lit))
  | 3 => some (.acChrR6S3 (BitVec.ofNat 3 lit))
  | 4 => some (.acChrR6S4 (BitVec.ofNat 4 lit))
  | 5 => some (.acChrR6S5 (BitVec.ofNat 5 lit))
  | 6 => some (.acChrR6S6 (BitVec.ofNat 6 lit))
  | 7 => some (.acChrR6S7 (BitVec.ofNat 7 lit))
  | 8 => some (.acChrR6S8 (BitVec.ofNat 8 lit))
  | 9 => some (.acChrR6S9 (BitVec.ofNat 9 lit))
  | 10 => some (.acChrR6S10 (BitVec.ofNat 10 lit))
  | _ => none

/-- The AC symbol of run 7, a size and a literal in `HTABLE[AC][CHR]`. -/
noncomputable def acInstrChr7 (lit : Nat) : Nat → Option Instr
  | 1 => some (.acChrR7S1 (BitVec.ofNat 1 lit))
  | 2 => some (.acChrR7S2 (BitVec.ofNat 2 lit))
  | 3 => some (.acChrR7S3 (BitVec.ofNat 3 lit))
  | 4 => some (.acChrR7S4 (BitVec.ofNat 4 lit))
  | 5 => some (.acChrR7S5 (BitVec.ofNat 5 lit))
  | 6 => some (.acChrR7S6 (BitVec.ofNat 6 lit))
  | 7 => some (.acChrR7S7 (BitVec.ofNat 7 lit))
  | 8 => some (.acChrR7S8 (BitVec.ofNat 8 lit))
  | 9 => some (.acChrR7S9 (BitVec.ofNat 9 lit))
  | 10 => some (.acChrR7S10 (BitVec.ofNat 10 lit))
  | _ => none

/-- The AC symbol of run 8, a size and a literal in `HTABLE[AC][CHR]`. -/
noncomputable def acInstrChr8 (lit : Nat) : Nat → Option Instr
  | 1 => some (.acChrR8S1 (BitVec.ofNat 1 lit))
  | 2 => some (.acChrR8S2 (BitVec.ofNat 2 lit))
  | 3 => some (.acChrR8S3 (BitVec.ofNat 3 lit))
  | 4 => some (.acChrR8S4 (BitVec.ofNat 4 lit))
  | 5 => some (.acChrR8S5 (BitVec.ofNat 5 lit))
  | 6 => some (.acChrR8S6 (BitVec.ofNat 6 lit))
  | 7 => some (.acChrR8S7 (BitVec.ofNat 7 lit))
  | 8 => some (.acChrR8S8 (BitVec.ofNat 8 lit))
  | 9 => some (.acChrR8S9 (BitVec.ofNat 9 lit))
  | 10 => some (.acChrR8S10 (BitVec.ofNat 10 lit))
  | _ => none

/-- The AC symbol of run 9, a size and a literal in `HTABLE[AC][CHR]`. -/
noncomputable def acInstrChr9 (lit : Nat) : Nat → Option Instr
  | 1 => some (.acChrR9S1 (BitVec.ofNat 1 lit))
  | 2 => some (.acChrR9S2 (BitVec.ofNat 2 lit))
  | 3 => some (.acChrR9S3 (BitVec.ofNat 3 lit))
  | 4 => some (.acChrR9S4 (BitVec.ofNat 4 lit))
  | 5 => some (.acChrR9S5 (BitVec.ofNat 5 lit))
  | 6 => some (.acChrR9S6 (BitVec.ofNat 6 lit))
  | 7 => some (.acChrR9S7 (BitVec.ofNat 7 lit))
  | 8 => some (.acChrR9S8 (BitVec.ofNat 8 lit))
  | 9 => some (.acChrR9S9 (BitVec.ofNat 9 lit))
  | 10 => some (.acChrR9S10 (BitVec.ofNat 10 lit))
  | _ => none

/-- The AC symbol of run 10, a size and a literal in `HTABLE[AC][CHR]`. -/
noncomputable def acInstrChr10 (lit : Nat) : Nat → Option Instr
  | 1 => some (.acChrR10S1 (BitVec.ofNat 1 lit))
  | 2 => some (.acChrR10S2 (BitVec.ofNat 2 lit))
  | 3 => some (.acChrR10S3 (BitVec.ofNat 3 lit))
  | 4 => some (.acChrR10S4 (BitVec.ofNat 4 lit))
  | 5 => some (.acChrR10S5 (BitVec.ofNat 5 lit))
  | 6 => some (.acChrR10S6 (BitVec.ofNat 6 lit))
  | 7 => some (.acChrR10S7 (BitVec.ofNat 7 lit))
  | 8 => some (.acChrR10S8 (BitVec.ofNat 8 lit))
  | 9 => some (.acChrR10S9 (BitVec.ofNat 9 lit))
  | 10 => some (.acChrR10S10 (BitVec.ofNat 10 lit))
  | _ => none

/-- The AC symbol of run 11, a size and a literal in `HTABLE[AC][CHR]`. -/
noncomputable def acInstrChr11 (lit : Nat) : Nat → Option Instr
  | 1 => some (.acChrR11S1 (BitVec.ofNat 1 lit))
  | 2 => some (.acChrR11S2 (BitVec.ofNat 2 lit))
  | 3 => some (.acChrR11S3 (BitVec.ofNat 3 lit))
  | 4 => some (.acChrR11S4 (BitVec.ofNat 4 lit))
  | 5 => some (.acChrR11S5 (BitVec.ofNat 5 lit))
  | 6 => some (.acChrR11S6 (BitVec.ofNat 6 lit))
  | 7 => some (.acChrR11S7 (BitVec.ofNat 7 lit))
  | 8 => some (.acChrR11S8 (BitVec.ofNat 8 lit))
  | 9 => some (.acChrR11S9 (BitVec.ofNat 9 lit))
  | 10 => some (.acChrR11S10 (BitVec.ofNat 10 lit))
  | _ => none

/-- The AC symbol of run 12, a size and a literal in `HTABLE[AC][CHR]`. -/
noncomputable def acInstrChr12 (lit : Nat) : Nat → Option Instr
  | 1 => some (.acChrR12S1 (BitVec.ofNat 1 lit))
  | 2 => some (.acChrR12S2 (BitVec.ofNat 2 lit))
  | 3 => some (.acChrR12S3 (BitVec.ofNat 3 lit))
  | 4 => some (.acChrR12S4 (BitVec.ofNat 4 lit))
  | 5 => some (.acChrR12S5 (BitVec.ofNat 5 lit))
  | 6 => some (.acChrR12S6 (BitVec.ofNat 6 lit))
  | 7 => some (.acChrR12S7 (BitVec.ofNat 7 lit))
  | 8 => some (.acChrR12S8 (BitVec.ofNat 8 lit))
  | 9 => some (.acChrR12S9 (BitVec.ofNat 9 lit))
  | 10 => some (.acChrR12S10 (BitVec.ofNat 10 lit))
  | _ => none

/-- The AC symbol of run 13, a size and a literal in `HTABLE[AC][CHR]`. -/
noncomputable def acInstrChr13 (lit : Nat) : Nat → Option Instr
  | 1 => some (.acChrR13S1 (BitVec.ofNat 1 lit))
  | 2 => some (.acChrR13S2 (BitVec.ofNat 2 lit))
  | 3 => some (.acChrR13S3 (BitVec.ofNat 3 lit))
  | 4 => some (.acChrR13S4 (BitVec.ofNat 4 lit))
  | 5 => some (.acChrR13S5 (BitVec.ofNat 5 lit))
  | 6 => some (.acChrR13S6 (BitVec.ofNat 6 lit))
  | 7 => some (.acChrR13S7 (BitVec.ofNat 7 lit))
  | 8 => some (.acChrR13S8 (BitVec.ofNat 8 lit))
  | 9 => some (.acChrR13S9 (BitVec.ofNat 9 lit))
  | 10 => some (.acChrR13S10 (BitVec.ofNat 10 lit))
  | _ => none

/-- The AC symbol of run 14, a size and a literal in `HTABLE[AC][CHR]`. -/
noncomputable def acInstrChr14 (lit : Nat) : Nat → Option Instr
  | 1 => some (.acChrR14S1 (BitVec.ofNat 1 lit))
  | 2 => some (.acChrR14S2 (BitVec.ofNat 2 lit))
  | 3 => some (.acChrR14S3 (BitVec.ofNat 3 lit))
  | 4 => some (.acChrR14S4 (BitVec.ofNat 4 lit))
  | 5 => some (.acChrR14S5 (BitVec.ofNat 5 lit))
  | 6 => some (.acChrR14S6 (BitVec.ofNat 6 lit))
  | 7 => some (.acChrR14S7 (BitVec.ofNat 7 lit))
  | 8 => some (.acChrR14S8 (BitVec.ofNat 8 lit))
  | 9 => some (.acChrR14S9 (BitVec.ofNat 9 lit))
  | 10 => some (.acChrR14S10 (BitVec.ofNat 10 lit))
  | _ => none

/-- The AC symbol of run 15, a size and a literal in `HTABLE[AC][CHR]`. -/
noncomputable def acInstrChr15 (lit : Nat) : Nat → Option Instr
  | 0 => some .acChrZrl
  | 1 => some (.acChrR15S1 (BitVec.ofNat 1 lit))
  | 2 => some (.acChrR15S2 (BitVec.ofNat 2 lit))
  | 3 => some (.acChrR15S3 (BitVec.ofNat 3 lit))
  | 4 => some (.acChrR15S4 (BitVec.ofNat 4 lit))
  | 5 => some (.acChrR15S5 (BitVec.ofNat 5 lit))
  | 6 => some (.acChrR15S6 (BitVec.ofNat 6 lit))
  | 7 => some (.acChrR15S7 (BitVec.ofNat 7 lit))
  | 8 => some (.acChrR15S8 (BitVec.ofNat 8 lit))
  | 9 => some (.acChrR15S9 (BitVec.ofNat 9 lit))
  | 10 => some (.acChrR15S10 (BitVec.ofNat 10 lit))
  | _ => none

/-- The AC symbol of a run, a size and a literal in `HTABLE[AC][LUM]`. -/
def acInstrLum (size lit : Nat) : Nat → Option Instr
  | 0 => acInstrLum0 lit size
  | 1 => acInstrLum1 lit size
  | 2 => acInstrLum2 lit size
  | 3 => acInstrLum3 lit size
  | 4 => acInstrLum4 lit size
  | 5 => acInstrLum5 lit size
  | 6 => acInstrLum6 lit size
  | 7 => acInstrLum7 lit size
  | 8 => acInstrLum8 lit size
  | 9 => acInstrLum9 lit size
  | 10 => acInstrLum10 lit size
  | 11 => acInstrLum11 lit size
  | 12 => acInstrLum12 lit size
  | 13 => acInstrLum13 lit size
  | 14 => acInstrLum14 lit size
  | 15 => acInstrLum15 lit size
  | _ => none

/-- The AC symbol of a run, a size and a literal in `HTABLE[AC][CHR]`. -/
noncomputable def acInstrChr (size lit : Nat) : Nat → Option Instr
  | 0 => acInstrChr0 lit size
  | 1 => acInstrChr1 lit size
  | 2 => acInstrChr2 lit size
  | 3 => acInstrChr3 lit size
  | 4 => acInstrChr4 lit size
  | 5 => acInstrChr5 lit size
  | 6 => acInstrChr6 lit size
  | 7 => acInstrChr7 lit size
  | 8 => acInstrChr8 lit size
  | 9 => acInstrChr9 lit size
  | 10 => acInstrChr10 lit size
  | 11 => acInstrChr11 lit size
  | 12 => acInstrChr12 lit size
  | 13 => acInstrChr13 lit size
  | 14 => acInstrChr14 lit size
  | 15 => acInstrChr15 lit size
  | _ => none

/-- The instruction of a symbol, where the table has its key. -/
noncomputable def Symbol.instr? (y : Symbol) : Option Instr :=
  match y.type, y.layer with
  | .dc, .lum => if y.run = 0 then dcInstrLum y.lit y.size else none
  | .dc, .chr => if y.run = 0 then dcInstrChr y.lit y.size else none
  | .ac, .lum => acInstrLum y.size y.lit y.run
  | .ac, .chr => acInstrChr y.size y.lit y.run

/-- Why no symbol can be read at a position (45_huffman R206, R207). -/
inductive SymbolFault where
  /-- The segment ends inside the codeword or the literal: `E_UNDERRUN`. -/
  | underrun
  /-- No codeword of the table matches: `E_NOMATCH`. -/
  | noMatch
  deriving DecidableEq, Repr

/-- Matching a codeword at the head of the remaining bits of a segment, window by window in the given increasing
lengths, the length test before the match test (45_huffman R206, 60_exceptions R307 (4)). -/
def matchCode (t : HTable) (rest : Bits) : List Nat → Except SymbolFault Code
  | [] => .error .noMatch
  | n :: ns =>
    let w := rest.take n
    if w.length < n then .error .underrun
    else
      match t.entry? n (valOf w) with
      | some c => .ok c
      | none => matchCode t rest ns

/-- One symbol at the head of the remaining bits of a segment of `(T, L)` and its length in bits (45_huffman R207). -/
def readSymbol (h : HTables) (ty : ValType) (l : Layer) (rest : Bits) : Except SymbolFault (Symbol × Nat) :=
  match matchCode (h.get ty l) rest (h.get ty l).lens with
  | .error e => .error e
  | .ok c =>
    let v := window rest c.len c.size
    if v.length < c.size then .error .underrun
    else .ok (⟨ty, l, c.run, c.size, valOf v⟩, c.len + c.size)

/-- The decoder of bit-stream symbols: the instruction at the head of the bits and its length. -/
noncomputable def decodeSymbol (h : HTables) (ty : ValType) (l : Layer) (rest : Bits) : Option (Instr × Nat) :=
  match readSymbol h ty l rest with
  | .ok (y, n) => y.instr?.map fun i => (i, n)
  | .error _ => none

/-- The bits of a symbol: its codeword, then its literal, most significant bit first (30_encoding R99, 45_huffman R205). -/
def Symbol.bits (h : HTables) (y : Symbol) : Bits :=
  match (h.get y.type y.layer).code? y.run y.size with
  | some c => c.bits ++ binOf y.size y.lit
  | none => []

/-- The encoder: a command's 16 bits, bit 15 first, or a symbol's bits in the tables `h`. -/
def encode (h : HTables) (i : Instr) : Bits :=
  match i.word?, i.symbol? with
  | some w, _ => binOf 16 w.toNat
  | none, some y => y.bits h
  | none, none => []

/-- The symbol whose bits are exactly `b`, in the first of the four tables, DC before AC and luminance before chrominance,
that has one. In the machine the table is always known (45_huffman R191); here it is not (log 14). -/
def exactSymbol (h : HTables) (b : Bits) : Option Symbol :=
  [(ValType.dc, Layer.lum), (.dc, .chr), (.ac, .lum), (.ac, .chr)].findSome? fun k =>
    match readSymbol h k.1 k.2 b with
    | .ok (y, n) => if n = b.length then some y else none
    | .error _ => none

/-- The instruction an `nbits`-bit row of the opcode table with bits `w` decodes to: a command for 16 bits that match a
command, else the symbol of exactly these bits in the default tables, which are the opcode table's, the first in stream order
being bit `nbits - 1` (log 14). -/
noncomputable def decodeTableWord (nbits w : Nat) : Option Instr :=
  match if nbits = 16 then decodeWord (BitVec.ofNat 16 w) else none with
  | some i => some i
  | none => (exactSymbol HTables.default (binOf nbits w)).bind Symbol.instr?

end Sys2Proof
end

