-- ==== Sys2Proof/Machine/Huffman.lean ====
section
/-! DEFINITION. The Huffman coder: `HEDC`, `HEAC`, `HDDC`, `HDAC` (45_huffman R205 to R212). -/

namespace Sys2Proof.Machine

/-- `enc_dc(d, L)`; `none` where it is undefined (R205). -/
def encDc (h : HTables) (d : Int) (l : Layer) : Option Bits :=
  ((h.get .dc l).code? 0 (category d)).map fun c => c.bits ++ literal d

/-- `enc_ac((r, v), L)`; `none` where it is undefined: the key `(r, category(v))` is not in the table, whose only keys of
size 0 are EOB and ZRL (R205). -/
def encAc (h : HTables) (p : Pair) (l : Layer) : Option Bits :=
  ((h.get .ac l).code? p.run (category p.value)).map fun c => c.bits ++ literal p.value

/-- The bits of a list of pairs, the first of which has index `n`, or the index of the first that cannot be coded (R210). -/
def encPairs (h : HTables) (l : Layer) (n : Nat) : List Pair → Except Nat Bits
  | [] => .ok []
  | p :: t =>
    match encAc h p l with
    | none => .error n
    | some b =>
      match encPairs h l (n + 1) t with
      | .error k => .error k
      | .ok bs => .ok (b ++ bs)

/-- The rule of `HEDC L` (R209). -/
def ruleHedc {ν : Type} (p : Params) (l : Layer) (s : CoreState ν) : Effect ν :=
  if s.layerBlocked l then .error (seqFault (0x2000 + l.code))
  else if s.vd then
    if -2047 ≤ s.diff ∧ s.diff ≤ 2047 then
      match encDc p.hTables s.diff l with
      | some b => appendBits p (segIx .dc l) b s
      | none => .error ⟨.dcRange, s.diff, 0⟩
    else .error ⟨.dcRange, s.diff, 0⟩
  else .error (seqFault (0x2000 + l.code))

/-- `HEDC L` (R209). -/
def execHedc (l : Layer) (s : State) : Result :=
  runCommand (ruleHedc s.params l) s

/-- The rule of `HEAC L` (R210). -/
def ruleHeac {ν : Type} (p : Params) (l : Layer) (s : CoreState ν) : Effect ν :=
  if s.layerBlocked l then .error (seqFault (0x2100 + l.code))
  else if s.vr then
    match encPairs p.hTables l 0 s.rl with
    | .ok b => appendBits p (segIx .ac l) b s
    | .error n => .error ⟨.acRange, n, 0⟩
  else .error (seqFault (0x2100 + l.code))

/-- `HEAC L` (R210). -/
def execHeac (l : Layer) (s : State) : Result :=
  runCommand (ruleHeac s.params l) s

/-- The fault of a symbol that cannot be read: `ERRINFO` is the position `p` at which it starts, `ERRSEG` the segment
(R206, R207). -/
def symbolRaise (e : SymbolFault) (p : Nat) (k : Fin 4) : Raise :=
  match e with
  | .underrun => ⟨.underrun, p, k⟩
  | .noMatch => ⟨.noMatch, p, k⟩

/-- What `HDDC L` does with the symbol at the cursor, `n` bits long (R211). -/
def takeDc {ν : Type} (p : Params) (l : Layer) (y : Symbol) (n : Nat) (s : CoreState ν) : Effect ν :=
  let d := unliteral y.size y.lit
  checkLimit .intWidth (p.fits d)
    (writeDiff d { s with mem := s.mem.setCur (segIx .dc l) (s.mem.cur[segIx .dc l] + n) })

/-- The rule of `HDDC L` (R211). -/
def ruleHddc {ν : Type} (p : Params) (l : Layer) (s : CoreState ν) : Effect ν :=
  let k := segIx .dc l
  if s.layerBlocked l then .error (seqFault (0x2200 + l.code))
  else
    match readSymbol p.hTables .dc l (s.mem.rest k) with
    | .error e => .error (symbolRaise e s.mem.cur[k] k)
    | .ok (y, n) => takeDc p l y n s

/-- `HDDC L` (R211). -/
def execHddc (l : Layer) (s : State) : Result :=
  runCommand (ruleHddc s.params l) s

/-- What the loop of `HDAC` does with one symbol, `n` bits long (R212): `rest` are the bits from the symbol on, `p` its
position, `out` and `cnt` the loop's variables, `go` the next turn. The answer is the pairs and the position after EOB. -/
def takeAc (y : Symbol) (n : Nat) (go : Bits → Nat → List Pair → Nat → Except Raise (List Pair × Nat))
    (rest : Bits) (p : Nat) (out : List Pair) (cnt : Nat) : Except Raise (List Pair × Nat) :=
  let q := pairOf y
  if q = eob then .ok (out ++ [q], p + n)
  else
    let cnt' := cnt + q.run + 1
    if 63 < cnt' then .error ⟨.rleFormat, cnt', 0⟩
    else go (rest.drop n) (p + n) (out ++ [q]) cnt'

/-- The loop of `HDAC L` (R212). Each turn but the last adds at least 1 to `cnt`, which stops at 63, so 64 turns are enough
for every segment: the first line is never reached (log 18). -/
def hdacLoop (h : HTables) (l : Layer) : Nat → Bits → Nat → List Pair → Nat → Except Raise (List Pair × Nat)
  | 0 => fun _ _ _ cnt => .error ⟨.rleFormat, cnt, 0⟩
  | turns + 1 => fun rest p out cnt =>
    match readSymbol h .ac l rest with
    | .error e => .error (symbolRaise e p (segIx .ac l))
    | .ok (y, n) => takeAc y n (hdacLoop h l turns) rest p out cnt

/-- The writes of `HDAC L`: `RL`, the cursor, `VR` (R212). -/
def commitAc {ν : Type} (p : Params) (l : Layer) (r : Except Raise (List Pair × Nat)) (s : CoreState ν) : Effect ν :=
  match r with
  | .error e => .error e
  | .ok (out, q) =>
    checkLimit .intWidth (p.fitsAll (out.map fun x => x.value))
      (writeRl out { s with mem := s.mem.setCur (segIx .ac l) q })

/-- The rule of `HDAC L` (R212). -/
def ruleHdac {ν : Type} (p : Params) (l : Layer) (s : CoreState ν) : Effect ν :=
  let k := segIx .ac l
  if s.layerBlocked l then .error (seqFault (0x2300 + l.code))
  else commitAc p l (hdacLoop p.hTables l 64 (s.mem.rest k) s.mem.cur[k] [] 0) s

/-- `HDAC L` (R212). -/
def execHdac (l : Layer) (s : State) : Result :=
  runCommand (ruleHdac s.params l) s

/-- `HDDC L` when the symbol at the cursor is `y` (R207, R211): the symbol's bits must be within the segment. -/
def ruleDcSymbol {ν : Type} (p : Params) (l : Layer) (size lit : Nat) (s : CoreState ν) : Effect ν :=
  let y : Symbol := ⟨.dc, l, 0, size, lit⟩
  let k := segIx .dc l
  if s.layerBlocked l then .error (seqFault (0x2200 + l.code))
  else if (s.mem.rest k).length < (y.bits p.hTables).length then .error (symbolRaise .underrun s.mem.cur[k] k)
  else takeDc p l y (y.bits p.hTables).length s

/-- `HDAC L` when the symbol at the cursor is `y` (R207, R212): the block's first symbol is `y`, the others are read from
the segment after it. -/
def ruleAcSymbol {ν : Type} (p : Params) (l : Layer) (run size lit : Nat) (s : CoreState ν) : Effect ν :=
  let y : Symbol := ⟨.ac, l, run, size, lit⟩
  let k := segIx .ac l
  if s.layerBlocked l then .error (seqFault (0x2300 + l.code))
  else if (s.mem.rest k).length < (y.bits p.hTables).length then .error (symbolRaise .underrun s.mem.cur[k] k)
  else commitAc p l (takeAc y (y.bits p.hTables).length (hdacLoop p.hTables l 63) (s.mem.rest k) s.mem.cur[k] [] 0) s

end Sys2Proof.Machine
end

