-- ==== Sys2Proof/Machine/Ports.lean ====
section
/-! DEFINITION. The port commands `LDX` and `STX` (48_dispatcher R266, R267). -/

namespace Sys2Proof.Machine

/-- The rule of `LDX` (R266). -/
def ruleLdx {ν : Type} (s : CoreState ν) : Effect ν :=
  match s.xin with
  | [] => .error (seqFault 0x0800)
  | b :: rest => .ok { writeXb b s with xin := rest }

/-- `LDX` (R266). -/
def execLdx (s : State) : Result :=
  runCommand ruleLdx s

/-- The rule of `STX` (R267). -/
def ruleStx {ν : Type} (s : CoreState ν) : Effect ν :=
  if s.vx then .ok { s with xout := s.xout ++ [s.xb] }
  else .error (seqFault 0x0900)

/-- `STX` (R267). -/
def execStx (s : State) : Result :=
  runCommand ruleStx s

end Sys2Proof.Machine
end

