-- ==== Sys2Proof/Machine/Dct.lean ====
section
/-! DEFINITION. The 8×8 DCT-II and its inverse as functions on blocks (40_transform R120 to R123). -/

namespace Sys2Proof.Machine

/-- `A[u][i] = ±2cos(mπ/16)/4`: whether it is negative, and `m` (40_transform R120, R121). For `u = 0` the entry is
`1/(2√2)`, that is `2cos(4π/16)/4`; for `u ≥ 1` it is `cos((2i+1)uπ/16)/2`, its angle folded into `0..7`. -/
def dctEntry (u i : Fin 8) : Bool × Nat :=
  if u.val = 0 then (false, 4)
  else
    let j := (2 * i.val + 1) * u.val % 32
    let k := if j ≤ 16 then j else 32 - j
    if k ≤ 8 then (false, k) else (true, 16 - k)

/-- `4·A[u][i]·x`. -/
def dctTerm (u i : Fin 8) (x : Cyc) : Cyc :=
  let e := dctEntry u i
  if e.1 then (Cyc.mulCos e.2 x).scale (-1) else Cyc.mulCos e.2 x

/-- `4·A[u][i]·x` with the roles of row and column exchanged: `4·Aᵀ[i][u]·x`. -/
def dctTermT (i u : Fin 8) (x : Cyc) : Cyc :=
  dctTerm u i x

/-- An 8×8 matrix by rows. -/
abbrev Matrix8 := Vector (Vector Cyc 8) 8

/-- The matrix with the entries `f i j`. -/
def matrixOf (f : Fin 8 → Fin 8 → Cyc) : Matrix8 :=
  Vector.ofFn fun i => Vector.ofFn fun j => f i j

/-- Four times the column transform `M·B`: `Σ_k 4·M[r][k]·B[k][c]`, where `m r k x` is `4·M[r][k]·x`. -/
def matLeft (m : Fin 8 → Fin 8 → Cyc → Cyc) (b : Matrix8) : Matrix8 :=
  matrixOf fun r c => Cyc.sum8 fun k => m r k b[k][c]

/-- Four times the row transform `B·Mᵀ`: `Σ_k B[r][k]·4·M[c][k]`, where `m c k x` is `4·M[c][k]·x`. -/
def matRight (m : Fin 8 → Fin 8 → Cyc → Cyc) (b : Matrix8) : Matrix8 :=
  matrixOf fun r c => Cyc.sum8 fun k => m c k b[r][k]

/-- A common denominator of a block. -/
def blockDen (b : Block NUM) : Nat :=
  b.toList.foldl (fun d x => Nat.lcm d x.den) 1

/-- `M·B·Mᵀ`, exactly: both products on integers over a common denominator, the two factors 4 divided out at the end. -/
def sandwich (m : Fin 8 → Fin 8 → Cyc → Cyc) (b : Block NUM) : Block NUM :=
  let d := blockDen b
  let y := matRight m (matLeft m (matrixOf fun i j => (blockAt b i j).times d))
  blockOf fun i j => (y[i][j]).over (16 * d)

/-- `fdct(X) = A·X·Aᵀ` (40_transform R122). -/
def fdct (x : Block NUM) : Block NUM :=
  sandwich dctTerm x

/-- `idct(Y) = Aᵀ·Y·A` (40_transform R123). -/
def idct (y : Block NUM) : Block NUM :=
  sandwich dctTermT y

end Sys2Proof.Machine
end

