-- ==== Sys2Proof/Machine/NumSystem.lean ====
section
/-! DEFINITION. The parameter `NUM` with its arithmetic (00_scope R10, 40_transform R130, decision D6): a number type and the four
places where the CORE computes with its values. The machine runs on the exact numbers of Num.lean; the reference `NUM` = ℝ is
in Machine/Reals.lean. -/

namespace Sys2Proof.Machine

/-- What the CORE computes with the values of a number type `ν` (decision D6). -/
structure NumSystem (ν : Type) where
  /-- `fdct` (40_transform R122). -/
  fdct : Block ν → Block ν
  /-- `idct` (40_transform R123). -/
  idct : Block ν → Block ν
  /-- `round(x / d)` (41_quantizer R143, R144). -/
  quantize : QRound → ℚ → ν → Int
  /-- `n · d` (41_quantizer R144). -/
  dequantize : ℚ → Int → ν

/-- The exact numbers of Num.lean (log 1). -/
def exactSystem : NumSystem NUM where
  fdct := fdct
  idct := idct
  quantize r d x := (NUM.scale (1 / d) x).round r
  dequantize d n := NUM.ofRat ((n : ℚ) * d)

end Sys2Proof.Machine
end

