-- ==== Sys2Proof/Machine/Quantizer.lean ====
section
/-! DEFINITION. The quantizer commands `QNT` and `DQT` (41_quantizer R141 to R146). -/

namespace Sys2Proof.Machine

/-- `factor(q)`, an exact rational (R141). -/
def factor (q : Nat) : ℚ :=
  if q < 50 then 5000 / (q : ℚ) else 200 - 2 * (q : ℚ)

/-- `S[L][i][j]` for the quality `q`, at raster index `k` (R142). -/
def scaleAt (t : QTables) (l : Layer) (q : Nat) (k : Fin 64) : ℚ :=
  (t.at l k : ℚ) * factor q / 100

/-- `quantize(X, L, q)` (R144). -/
def quantize {ν : Type} (p : Params) (n : NumSystem ν) (l : Layer) (q : Nat) (x : Block ν) : Block Int :=
  Vector.ofFn fun k => n.quantize p.qRound (scaleAt p.qTables l q k) x[k]

/-- `dequantize(Q, L, q)` (R144). -/
def dequantize {ν : Type} (p : Params) (n : NumSystem ν) (l : Layer) (q : Nat) (b : Block Int) : Block ν :=
  Vector.ofFn fun k => n.dequantize (scaleAt p.qTables l q k) b[k]

/-- The rule of `QNT L` (R145). -/
def ruleQnt {ν : Type} (p : Params) (n : NumSystem ν) (l : Layer) (s : CoreState ν) : Effect ν :=
  if s.layerBlocked l then .error (seqFault (0x1200 + l.code))
  else if s.quality = 0 then .error (seqFault (0x1200 + l.code))
  else if s.vx then
    let q := quantize p n l s.quality s.xb
    checkLimit .intWidth (p.fitsAll q.toList) (writeQb q s)
  else .error (seqFault (0x1200 + l.code))

/-- `QNT L` (R145). -/
def execQnt (l : Layer) (s : State) : Result :=
  runCommand (ruleQnt s.params exactSystem l) s

/-- The rule of `DQT L` (R146). -/
def ruleDqt {ν : Type} (p : Params) (n : NumSystem ν) (l : Layer) (s : CoreState ν) : Effect ν :=
  if s.layerBlocked l then .error (seqFault (0x1300 + l.code))
  else if s.quality = 0 then .error (seqFault (0x1300 + l.code))
  else if s.vq then .ok (writeXb (dequantize p n l s.quality s.qb) s)
  else .error (seqFault (0x1300 + l.code))

/-- `DQT L` (R146). -/
def execDqt (l : Layer) (s : State) : Result :=
  runCommand (ruleDqt s.params exactSystem l) s

end Sys2Proof.Machine
end

