-- ==== Sys2Proof/Machine/RunLength.lean ====
section
/-! DEFINITION. The run-length AC coder: `RLE` and `RLD` (44_rle_coder R180 to R183). -/

namespace Sys2Proof.Machine

/-- The AC coefficients `ac[k] = ZQ[k+1]`, `k` in `0..62` (R180). -/
def acOf (z : Vector Int 64) : List Int :=
  z.toList.tail

/-- The pairs of a coefficient sequence with `run` zeros before it (R181). A run that reaches the end is not emitted, which
is what the rule's `last` says; EOB ends the list. -/
def rleFrom (run : Nat) : List Int → List Pair
  | [] => [eob]
  | v :: t =>
    if v = 0 then rleFrom (run + 1) t
    else List.replicate (run / 16) zrl ++ ⟨run % 16, v⟩ :: rleFrom 0 t

/-- The rule of `RLE` (R181). -/
def ruleRle {ν : Type} (s : CoreState ν) : Effect ν :=
  if s.vza then .ok (writeRl (rleFrom 0 (acOf s.zq)) s)
  else .error (seqFault 0x1A00)

/-- `RLE` (R181). -/
def execRle (s : State) : Result :=
  runCommand ruleRle s

/-- The coefficients the pairs before the first EOB expand to; `none` where there is no EOB (R183). -/
def expand : List Pair → Option (List Int)
  | [] => none
  | p :: t =>
    if p = eob then some []
    else (expand t).map fun rest => List.replicate p.run 0 ++ p.value :: rest

/-- The rule of `RLD` (R183). -/
def ruleRld {ν : Type} (s : CoreState ν) : Effect ν :=
  if s.vr then
    match expand s.rl with
    | none => .error ⟨.rleFormat, 0, 0⟩
    | some out =>
      if out.length ≤ 63 then .ok (writeZqAc out s)
      else .error ⟨.rleFormat, out.length, 0⟩
  else .error (seqFault 0x1B00)

/-- `RLD` (R183). -/
def execRld (s : State) : Result :=
  runCommand ruleRld s

end Sys2Proof.Machine
end

