-- ==== Sys2Proof/Machine/Transform.lean ====
section
/-! DEFINITION. The transform commands `FDCT` and `IDCT` (40_transform R124, R125). -/

namespace Sys2Proof.Machine

/-- The rule of `FDCT` (R124). -/
def ruleFdct {ν : Type} (n : NumSystem ν) (s : CoreState ν) : Effect ν :=
  if s.vx then .ok (writeXb (n.fdct s.xb) s)
  else .error (seqFault 0x1000)

/-- `FDCT` (R124). -/
def execFdct (s : State) : Result :=
  runCommand (ruleFdct exactSystem) s

/-- The rule of `IDCT` (R125). -/
def ruleIdct {ν : Type} (n : NumSystem ν) (s : CoreState ν) : Effect ν :=
  if s.vx then .ok (writeXb (n.idct s.xb) s)
  else .error (seqFault 0x1100)

/-- `IDCT` (R125). -/
def execIdct (s : State) : Result :=
  runCommand (ruleIdct exactSystem) s

end Sys2Proof.Machine
end

