-- ==== Sys2Proof/Machine/ZigZag.lean ====
section
/-! DEFINITION. The zig-zag commands `ZZ` and `IZZ` (42_zigzag R162 to R164). -/

namespace Sys2Proof.Machine

/-- `zigzag(Q)` (R162). -/
def zigzag (b : Block Int) : Vector Int 64 :=
  Vector.ofFn fun k => b[zzOrder k]

/-- `inverse_zigzag(Z)` (R162). -/
def inverseZigzag (z : Vector Int 64) : Block Int :=
  Vector.ofFn fun p => z[zzRank p]

/-- The rule of `ZZ` (R163). -/
def ruleZz {ν : Type} (s : CoreState ν) : Effect ν :=
  if s.vq then .ok (writeZq (zigzag s.qb) s)
  else .error (seqFault 0x1400)

/-- `ZZ` (R163). -/
def execZz (s : State) : Result :=
  runCommand ruleZz s

/-- The rule of `IZZ` (R164). -/
def ruleIzz {ν : Type} (s : CoreState ν) : Effect ν :=
  if s.vz0 && s.vza then .ok (writeQb (inverseZigzag s.zq) s)
  else .error (seqFault 0x1500)

/-- `IZZ` (R164). -/
def execIzz (s : State) : Result :=
  runCommand ruleIzz s

end Sys2Proof.Machine
end

