-- ==== Sys2Proof/Machine/Composite.lean ====
section
/-! DEFINITION. The composite block commands `ENCBLK` and `DECBLK` (48_dispatcher R270, R271). -/

namespace Sys2Proof.Machine

/-- `LDX ; FDCT ; QNT L ; ZZ ; DCE L ; HEDC L ; RLE ; HEAC L`, without the steps' counting (R270). -/
def encodeChain {ν : Type} (p : Params) (n : NumSystem ν) (l : Layer) (s : CoreState ν) : Effect ν :=
  andThen (andThen (andThen (andThen (andThen (andThen (andThen (ruleLdx s) (ruleFdct n)) (ruleQnt p n l))
    ruleZz) (ruleDce p l)) (ruleHedc p l)) ruleRle) (ruleHeac p l)

/-- `HDDC L ; DCD L ; HDAC L ; RLD ; IZZ ; DQT L ; IDCT ; STX`, without the steps' counting (R271). -/
def decodeChain {ν : Type} (p : Params) (n : NumSystem ν) (l : Layer) (s : CoreState ν) : Effect ν :=
  andThen (andThen (andThen (andThen (andThen (andThen (andThen (ruleHddc p l s) (ruleDcd p l)) (ruleHdac p l))
    ruleRld) ruleIzz) (ruleDqt p n l)) (ruleIdct n)) ruleStx

/-- The rule of `ENCBLK L` (R270). -/
def ruleEncblk {ν : Type} (p : Params) (n : NumSystem ν) (l : Layer) (s : CoreState ν) : Effect ν :=
  if s.layerBlocked l then .error (seqFault (0x3000 + l.code))
  else if s.quality = 0 then .error (seqFault (0x3000 + l.code))
  else if s.xin.isEmpty then .error (seqFault (0x3000 + l.code))
  else encodeChain p n l s

/-- `ENCBLK L` (R270). -/
def execEncblk (l : Layer) (s : State) : Result :=
  runCommand (ruleEncblk s.params exactSystem l) s

/-- The rule of `DECBLK L` (R271). -/
def ruleDecblk {ν : Type} (p : Params) (n : NumSystem ν) (l : Layer) (s : CoreState ν) : Effect ν :=
  if s.layerBlocked l then .error (seqFault (0x3100 + l.code))
  else if s.quality = 0 then .error (seqFault (0x3100 + l.code))
  else decodeChain p n l s

/-- `DECBLK L` (R271). -/
def execDecblk (l : Layer) (s : State) : Result :=
  runCommand (ruleDecblk s.params exactSystem l) s

end Sys2Proof.Machine
end

