-- ==== Sys2Proof/Machine/Housekeeping.lean ====
section
/-! DEFINITION. The housekeeping commands `NOP`, `CLR`, `CFGQ`, `CFGG` (48_dispatcher R262 to R265). -/

namespace Sys2Proof.Machine

/-- `NOP` does nothing but count (R262). -/
def execNop (s : State) : Result :=
  runCommand (fun t => .ok t) s

/-- `CLR` is executed in every state, also while `FAULTED` (R260, R263). -/
def execClr (s : State) : Result :=
  .next (s.over fun t => clearSession (countCommand t))

/-- The rule of `CFGQ q` (R264). -/
def ruleCfgq {ν : Type} (q : Nat) (s : CoreState ν) : Effect ν :=
  if 1 ≤ q ∧ q ≤ 95 then .ok { s with quality := q }
  else .error ⟨.param, q, 0⟩

/-- `CFGQ q` (R264). -/
def execCfgq (q : Nat) (s : State) : Result :=
  runCommand (ruleCfgq q) s

/-- The rule of `CFGG g` (R265). -/
def ruleCfgg {ν : Type} (g : Bool) (s : CoreState ν) : Effect ν :=
  .ok { s with grey := g }

/-- `CFGG g` (R265). -/
def execCfgg (g : Bool) (s : State) : Result :=
  runCommand (ruleCfgg g) s

end Sys2Proof.Machine
end

