-- ==== Sys2Proof/Machine/Packer.lean ====
section
/-! DEFINITION. The packer and the slicer: `PACK` and `SLICE` (47_packer R242 to R244). -/

namespace Sys2Proof.Machine

/-- `SEG[0], …, SEG[NSEG-1]`, in the order of the flat sequence (47_packer R241, 20_memory R71). -/
def CoreState.activeSegs {ν : Type} (s : CoreState ν) : List Bits :=
  s.mem.seg.toList.take s.nseg

/-- `(-T) mod 8` (20_memory R66). -/
def padding (total : Nat) : Nat :=
  (8 - total % 8) % 8

/-- The record `PACK` emits (R243). -/
def packRecord {ν : Type} (p : Params) (s : CoreState ν) : Record :=
  let segs := s.activeSegs
  let rem := padding segs.flatten.length
  { data := bytesOf p.bitOrder (segs.flatten ++ List.replicate rem false)
    remainingBits := rem
    sliceLengths := segs.map fun b => (b.length : Int) }

/-- The rule of `PACK` (R243). -/
def rulePack {ν : Type} (p : Params) (s : CoreState ν) : Effect ν :=
  .ok { s with remBits := padding s.activeSegs.flatten.length, bout := s.bout ++ [packRecord p s] }

/-- `PACK` (R243). -/
def execPack (s : State) : Result :=
  runCommand (rulePack s.params) s

/-- The number of the first check of `SLICE` a record fails, `none` where it passes all four (R244). -/
def headerFault (n : Nat) (r : Record) : Option Nat :=
  if r.sliceLengths.length ≠ n then some 1
  else if r.sliceLengths.any (fun k => decide (k < 0)) then some 2
  else if r.remainingBits < 0 ∨ 7 < r.remainingBits then some 3
  else if r.sliceLengths.sum + r.remainingBits ≠ 8 * (r.data.length : Int) then some 4
  else none

/-- The bits cut into pieces of the given lengths, in order; what is left over is dropped (R244). -/
def cut : List Nat → Bits → List Bits
  | [], _ => []
  | n :: ns, b => b.take n :: cut ns (b.drop n)

/-- The segments `SLICE` makes of a record: the pieces first, then empty ones up to four (R244). -/
def sliceSegs (o : BitOrder) (r : Record) : Vector Bits 4 :=
  let pieces := cut (r.sliceLengths.map Int.toNat) (bitsOf o r.data)
  Vector.ofFn fun k => pieces.getD k.val []

/-- The rule of `SLICE` (R244). -/
def ruleSlice {ν : Type} (p : Params) (s : CoreState ν) : Effect ν :=
  match s.bin with
  | [] => .error (seqFault 0x2900)
  | r :: rest =>
    match headerFault s.nseg r with
    | some n => .error ⟨.header, n, 0⟩
    | none =>
      let segs := sliceSegs p.bitOrder r
      checkLimit .segCap (segs.toList.all fun b => p.holds b.length)
        { s with mem := Memory.load segs, remBits := r.remainingBits.toNat, bin := rest }

/-- `SLICE` (R244). -/
def execSlice (s : State) : Result :=
  runCommand (ruleSlice s.params) s

end Sys2Proof.Machine
end

