-- ==== Sys2Proof/Machine/Symbols.lean ====
section
/-! DEFINITION. The meanings of the 348 bit-stream symbols (45_huffman R207, R211, R212; log 10). A DC symbol is `HDDC` of
its layer reading that symbol at the cursor; an AC symbol is `HDAC` of its layer reading that symbol first. -/

namespace Sys2Proof.Machine

/-- A DC symbol read at the cursor (45_huffman R211). -/
def runDcSymbol (l : Layer) (size lit : Nat) (s : State) : Result :=
  runCommand (ruleDcSymbol s.params l size lit) s

/-- An AC symbol read first in its block (45_huffman R212). -/
def runAcSymbol (l : Layer) (run size lit : Nat) (s : State) : Result :=
  runCommand (ruleAcSymbol s.params l run size lit) s

/-- `DC_LUM_S0`: `00` (R211). -/
def execDcLumS0 (s : State) : Result := runDcSymbol .lum 0 0 s

/-- `DC_LUM_S1`: `010`, 1 literal bit (R211). -/
def execDcLumS1 (v : BitVec 1) (s : State) : Result := runDcSymbol .lum 1 v.toNat s

/-- `DC_LUM_S2`: `011`, 2 literal bits (R211). -/
def execDcLumS2 (v : BitVec 2) (s : State) : Result := runDcSymbol .lum 2 v.toNat s

/-- `DC_LUM_S3`: `100`, 3 literal bits (R211). -/
def execDcLumS3 (v : BitVec 3) (s : State) : Result := runDcSymbol .lum 3 v.toNat s

/-- `DC_LUM_S4`: `101`, 4 literal bits (R211). -/
def execDcLumS4 (v : BitVec 4) (s : State) : Result := runDcSymbol .lum 4 v.toNat s

/-- `DC_LUM_S5`: `110`, 5 literal bits (R211). -/
def execDcLumS5 (v : BitVec 5) (s : State) : Result := runDcSymbol .lum 5 v.toNat s

/-- `DC_LUM_S6`: `1110`, 6 literal bits (R211). -/
def execDcLumS6 (v : BitVec 6) (s : State) : Result := runDcSymbol .lum 6 v.toNat s

/-- `DC_LUM_S7`: `11110`, 7 literal bits (R211). -/
def execDcLumS7 (v : BitVec 7) (s : State) : Result := runDcSymbol .lum 7 v.toNat s

/-- `DC_LUM_S8`: `111110`, 8 literal bits (R211). -/
def execDcLumS8 (v : BitVec 8) (s : State) : Result := runDcSymbol .lum 8 v.toNat s

/-- `DC_LUM_S9`: `1111110`, 9 literal bits (R211). -/
def execDcLumS9 (v : BitVec 9) (s : State) : Result := runDcSymbol .lum 9 v.toNat s

/-- `DC_LUM_S10`: `11111110`, 10 literal bits (R211). -/
def execDcLumS10 (v : BitVec 10) (s : State) : Result := runDcSymbol .lum 10 v.toNat s

/-- `DC_LUM_S11`: `111111110`, 11 literal bits (R211). -/
def execDcLumS11 (v : BitVec 11) (s : State) : Result := runDcSymbol .lum 11 v.toNat s

/-- `DC_CHR_S0`: `00` (R211). -/
def execDcChrS0 (s : State) : Result := runDcSymbol .chr 0 0 s

/-- `DC_CHR_S1`: `01`, 1 literal bit (R211). -/
def execDcChrS1 (v : BitVec 1) (s : State) : Result := runDcSymbol .chr 1 v.toNat s

/-- `DC_CHR_S2`: `10`, 2 literal bits (R211). -/
def execDcChrS2 (v : BitVec 2) (s : State) : Result := runDcSymbol .chr 2 v.toNat s

/-- `DC_CHR_S3`: `110`, 3 literal bits (R211). -/
def execDcChrS3 (v : BitVec 3) (s : State) : Result := runDcSymbol .chr 3 v.toNat s

/-- `DC_CHR_S4`: `1110`, 4 literal bits (R211). -/
def execDcChrS4 (v : BitVec 4) (s : State) : Result := runDcSymbol .chr 4 v.toNat s

/-- `DC_CHR_S5`: `11110`, 5 literal bits (R211). -/
def execDcChrS5 (v : BitVec 5) (s : State) : Result := runDcSymbol .chr 5 v.toNat s

/-- `DC_CHR_S6`: `111110`, 6 literal bits (R211). -/
def execDcChrS6 (v : BitVec 6) (s : State) : Result := runDcSymbol .chr 6 v.toNat s

/-- `DC_CHR_S7`: `1111110`, 7 literal bits (R211). -/
def execDcChrS7 (v : BitVec 7) (s : State) : Result := runDcSymbol .chr 7 v.toNat s

/-- `DC_CHR_S8`: `11111110`, 8 literal bits (R211). -/
def execDcChrS8 (v : BitVec 8) (s : State) : Result := runDcSymbol .chr 8 v.toNat s

/-- `DC_CHR_S9`: `111111110`, 9 literal bits (R211). -/
def execDcChrS9 (v : BitVec 9) (s : State) : Result := runDcSymbol .chr 9 v.toNat s

/-- `DC_CHR_S10`: `1111111110`, 10 literal bits (R211). -/
def execDcChrS10 (v : BitVec 10) (s : State) : Result := runDcSymbol .chr 10 v.toNat s

/-- `DC_CHR_S11`: `11111111110`, 11 literal bits (R211). -/
def execDcChrS11 (v : BitVec 11) (s : State) : Result := runDcSymbol .chr 11 v.toNat s

/-- `AC_LUM_EOB`: `1010` (R212). -/
def execAcLumEob (s : State) : Result := runAcSymbol .lum 0 0 0 s

/-- `AC_LUM_R0_S1`: `00`, 1 literal bit (R212). -/
def execAcLumR0S1 (v : BitVec 1) (s : State) : Result := runAcSymbol .lum 0 1 v.toNat s

/-- `AC_LUM_R0_S2`: `01`, 2 literal bits (R212). -/
def execAcLumR0S2 (v : BitVec 2) (s : State) : Result := runAcSymbol .lum 0 2 v.toNat s

/-- `AC_LUM_R0_S3`: `100`, 3 literal bits (R212). -/
def execAcLumR0S3 (v : BitVec 3) (s : State) : Result := runAcSymbol .lum 0 3 v.toNat s

/-- `AC_LUM_R0_S4`: `1011`, 4 literal bits (R212). -/
def execAcLumR0S4 (v : BitVec 4) (s : State) : Result := runAcSymbol .lum 0 4 v.toNat s

/-- `AC_LUM_R0_S5`: `11010`, 5 literal bits (R212). -/
def execAcLumR0S5 (v : BitVec 5) (s : State) : Result := runAcSymbol .lum 0 5 v.toNat s

/-- `AC_LUM_R0_S6`: `1111000`, 6 literal bits (R212). -/
def execAcLumR0S6 (v : BitVec 6) (s : State) : Result := runAcSymbol .lum 0 6 v.toNat s

/-- `AC_LUM_R0_S7`: `11111000`, 7 literal bits (R212). -/
def execAcLumR0S7 (v : BitVec 7) (s : State) : Result := runAcSymbol .lum 0 7 v.toNat s

/-- `AC_LUM_R0_S8`: `1111110110`, 8 literal bits (R212). -/
def execAcLumR0S8 (v : BitVec 8) (s : State) : Result := runAcSymbol .lum 0 8 v.toNat s

/-- `AC_LUM_R0_S9`: `1111111110000010`, 9 literal bits (R212). -/
def execAcLumR0S9 (v : BitVec 9) (s : State) : Result := runAcSymbol .lum 0 9 v.toNat s

/-- `AC_LUM_R0_S10`: `1111111110000011`, 10 literal bits (R212). -/
def execAcLumR0S10 (v : BitVec 10) (s : State) : Result := runAcSymbol .lum 0 10 v.toNat s

/-- `AC_LUM_R1_S1`: `1100`, 1 literal bit (R212). -/
def execAcLumR1S1 (v : BitVec 1) (s : State) : Result := runAcSymbol .lum 1 1 v.toNat s

/-- `AC_LUM_R1_S2`: `11011`, 2 literal bits (R212). -/
def execAcLumR1S2 (v : BitVec 2) (s : State) : Result := runAcSymbol .lum 1 2 v.toNat s

/-- `AC_LUM_R1_S3`: `1111001`, 3 literal bits (R212). -/
def execAcLumR1S3 (v : BitVec 3) (s : State) : Result := runAcSymbol .lum 1 3 v.toNat s

/-- `AC_LUM_R1_S4`: `111110110`, 4 literal bits (R212). -/
def execAcLumR1S4 (v : BitVec 4) (s : State) : Result := runAcSymbol .lum 1 4 v.toNat s

/-- `AC_LUM_R1_S5`: `11111110110`, 5 literal bits (R212). -/
def execAcLumR1S5 (v : BitVec 5) (s : State) : Result := runAcSymbol .lum 1 5 v.toNat s

/-- `AC_LUM_R1_S6`: `1111111110000100`, 6 literal bits (R212). -/
def execAcLumR1S6 (v : BitVec 6) (s : State) : Result := runAcSymbol .lum 1 6 v.toNat s

/-- `AC_LUM_R1_S7`: `1111111110000101`, 7 literal bits (R212). -/
def execAcLumR1S7 (v : BitVec 7) (s : State) : Result := runAcSymbol .lum 1 7 v.toNat s

/-- `AC_LUM_R1_S8`: `1111111110000110`, 8 literal bits (R212). -/
def execAcLumR1S8 (v : BitVec 8) (s : State) : Result := runAcSymbol .lum 1 8 v.toNat s

/-- `AC_LUM_R1_S9`: `1111111110000111`, 9 literal bits (R212). -/
def execAcLumR1S9 (v : BitVec 9) (s : State) : Result := runAcSymbol .lum 1 9 v.toNat s

/-- `AC_LUM_R1_S10`: `1111111110001000`, 10 literal bits (R212). -/
def execAcLumR1S10 (v : BitVec 10) (s : State) : Result := runAcSymbol .lum 1 10 v.toNat s

/-- `AC_LUM_R2_S1`: `11100`, 1 literal bit (R212). -/
def execAcLumR2S1 (v : BitVec 1) (s : State) : Result := runAcSymbol .lum 2 1 v.toNat s

/-- `AC_LUM_R2_S2`: `11111001`, 2 literal bits (R212). -/
def execAcLumR2S2 (v : BitVec 2) (s : State) : Result := runAcSymbol .lum 2 2 v.toNat s

/-- `AC_LUM_R2_S3`: `1111110111`, 3 literal bits (R212). -/
def execAcLumR2S3 (v : BitVec 3) (s : State) : Result := runAcSymbol .lum 2 3 v.toNat s

/-- `AC_LUM_R2_S4`: `111111110100`, 4 literal bits (R212). -/
def execAcLumR2S4 (v : BitVec 4) (s : State) : Result := runAcSymbol .lum 2 4 v.toNat s

/-- `AC_LUM_R2_S5`: `1111111110001001`, 5 literal bits (R212). -/
def execAcLumR2S5 (v : BitVec 5) (s : State) : Result := runAcSymbol .lum 2 5 v.toNat s

/-- `AC_LUM_R2_S6`: `1111111110001010`, 6 literal bits (R212). -/
def execAcLumR2S6 (v : BitVec 6) (s : State) : Result := runAcSymbol .lum 2 6 v.toNat s

/-- `AC_LUM_R2_S7`: `1111111110001011`, 7 literal bits (R212). -/
def execAcLumR2S7 (v : BitVec 7) (s : State) : Result := runAcSymbol .lum 2 7 v.toNat s

/-- `AC_LUM_R2_S8`: `1111111110001100`, 8 literal bits (R212). -/
def execAcLumR2S8 (v : BitVec 8) (s : State) : Result := runAcSymbol .lum 2 8 v.toNat s

/-- `AC_LUM_R2_S9`: `1111111110001101`, 9 literal bits (R212). -/
def execAcLumR2S9 (v : BitVec 9) (s : State) : Result := runAcSymbol .lum 2 9 v.toNat s

/-- `AC_LUM_R2_S10`: `1111111110001110`, 10 literal bits (R212). -/
def execAcLumR2S10 (v : BitVec 10) (s : State) : Result := runAcSymbol .lum 2 10 v.toNat s

/-- `AC_LUM_R3_S1`: `111010`, 1 literal bit (R212). -/
def execAcLumR3S1 (v : BitVec 1) (s : State) : Result := runAcSymbol .lum 3 1 v.toNat s

/-- `AC_LUM_R3_S2`: `111110111`, 2 literal bits (R212). -/
def execAcLumR3S2 (v : BitVec 2) (s : State) : Result := runAcSymbol .lum 3 2 v.toNat s

/-- `AC_LUM_R3_S3`: `111111110101`, 3 literal bits (R212). -/
def execAcLumR3S3 (v : BitVec 3) (s : State) : Result := runAcSymbol .lum 3 3 v.toNat s

/-- `AC_LUM_R3_S4`: `1111111110001111`, 4 literal bits (R212). -/
def execAcLumR3S4 (v : BitVec 4) (s : State) : Result := runAcSymbol .lum 3 4 v.toNat s

/-- `AC_LUM_R3_S5`: `1111111110010000`, 5 literal bits (R212). -/
def execAcLumR3S5 (v : BitVec 5) (s : State) : Result := runAcSymbol .lum 3 5 v.toNat s

/-- `AC_LUM_R3_S6`: `1111111110010001`, 6 literal bits (R212). -/
def execAcLumR3S6 (v : BitVec 6) (s : State) : Result := runAcSymbol .lum 3 6 v.toNat s

/-- `AC_LUM_R3_S7`: `1111111110010010`, 7 literal bits (R212). -/
def execAcLumR3S7 (v : BitVec 7) (s : State) : Result := runAcSymbol .lum 3 7 v.toNat s

/-- `AC_LUM_R3_S8`: `1111111110010011`, 8 literal bits (R212). -/
def execAcLumR3S8 (v : BitVec 8) (s : State) : Result := runAcSymbol .lum 3 8 v.toNat s

/-- `AC_LUM_R3_S9`: `1111111110010100`, 9 literal bits (R212). -/
def execAcLumR3S9 (v : BitVec 9) (s : State) : Result := runAcSymbol .lum 3 9 v.toNat s

/-- `AC_LUM_R3_S10`: `1111111110010101`, 10 literal bits (R212). -/
def execAcLumR3S10 (v : BitVec 10) (s : State) : Result := runAcSymbol .lum 3 10 v.toNat s

/-- `AC_LUM_R4_S1`: `111011`, 1 literal bit (R212). -/
def execAcLumR4S1 (v : BitVec 1) (s : State) : Result := runAcSymbol .lum 4 1 v.toNat s

/-- `AC_LUM_R4_S2`: `1111111000`, 2 literal bits (R212). -/
def execAcLumR4S2 (v : BitVec 2) (s : State) : Result := runAcSymbol .lum 4 2 v.toNat s

/-- `AC_LUM_R4_S3`: `1111111110010110`, 3 literal bits (R212). -/
def execAcLumR4S3 (v : BitVec 3) (s : State) : Result := runAcSymbol .lum 4 3 v.toNat s

/-- `AC_LUM_R4_S4`: `1111111110010111`, 4 literal bits (R212). -/
def execAcLumR4S4 (v : BitVec 4) (s : State) : Result := runAcSymbol .lum 4 4 v.toNat s

/-- `AC_LUM_R4_S5`: `1111111110011000`, 5 literal bits (R212). -/
def execAcLumR4S5 (v : BitVec 5) (s : State) : Result := runAcSymbol .lum 4 5 v.toNat s

/-- `AC_LUM_R4_S6`: `1111111110011001`, 6 literal bits (R212). -/
def execAcLumR4S6 (v : BitVec 6) (s : State) : Result := runAcSymbol .lum 4 6 v.toNat s

/-- `AC_LUM_R4_S7`: `1111111110011010`, 7 literal bits (R212). -/
def execAcLumR4S7 (v : BitVec 7) (s : State) : Result := runAcSymbol .lum 4 7 v.toNat s

/-- `AC_LUM_R4_S8`: `1111111110011011`, 8 literal bits (R212). -/
def execAcLumR4S8 (v : BitVec 8) (s : State) : Result := runAcSymbol .lum 4 8 v.toNat s

/-- `AC_LUM_R4_S9`: `1111111110011100`, 9 literal bits (R212). -/
def execAcLumR4S9 (v : BitVec 9) (s : State) : Result := runAcSymbol .lum 4 9 v.toNat s

/-- `AC_LUM_R4_S10`: `1111111110011101`, 10 literal bits (R212). -/
def execAcLumR4S10 (v : BitVec 10) (s : State) : Result := runAcSymbol .lum 4 10 v.toNat s

/-- `AC_LUM_R5_S1`: `1111010`, 1 literal bit (R212). -/
def execAcLumR5S1 (v : BitVec 1) (s : State) : Result := runAcSymbol .lum 5 1 v.toNat s

/-- `AC_LUM_R5_S2`: `11111110111`, 2 literal bits (R212). -/
def execAcLumR5S2 (v : BitVec 2) (s : State) : Result := runAcSymbol .lum 5 2 v.toNat s

/-- `AC_LUM_R5_S3`: `1111111110011110`, 3 literal bits (R212). -/
def execAcLumR5S3 (v : BitVec 3) (s : State) : Result := runAcSymbol .lum 5 3 v.toNat s

/-- `AC_LUM_R5_S4`: `1111111110011111`, 4 literal bits (R212). -/
def execAcLumR5S4 (v : BitVec 4) (s : State) : Result := runAcSymbol .lum 5 4 v.toNat s

/-- `AC_LUM_R5_S5`: `1111111110100000`, 5 literal bits (R212). -/
def execAcLumR5S5 (v : BitVec 5) (s : State) : Result := runAcSymbol .lum 5 5 v.toNat s

/-- `AC_LUM_R5_S6`: `1111111110100001`, 6 literal bits (R212). -/
def execAcLumR5S6 (v : BitVec 6) (s : State) : Result := runAcSymbol .lum 5 6 v.toNat s

/-- `AC_LUM_R5_S7`: `1111111110100010`, 7 literal bits (R212). -/
def execAcLumR5S7 (v : BitVec 7) (s : State) : Result := runAcSymbol .lum 5 7 v.toNat s

/-- `AC_LUM_R5_S8`: `1111111110100011`, 8 literal bits (R212). -/
def execAcLumR5S8 (v : BitVec 8) (s : State) : Result := runAcSymbol .lum 5 8 v.toNat s

/-- `AC_LUM_R5_S9`: `1111111110100100`, 9 literal bits (R212). -/
def execAcLumR5S9 (v : BitVec 9) (s : State) : Result := runAcSymbol .lum 5 9 v.toNat s

/-- `AC_LUM_R5_S10`: `1111111110100101`, 10 literal bits (R212). -/
def execAcLumR5S10 (v : BitVec 10) (s : State) : Result := runAcSymbol .lum 5 10 v.toNat s

/-- `AC_LUM_R6_S1`: `1111011`, 1 literal bit (R212). -/
def execAcLumR6S1 (v : BitVec 1) (s : State) : Result := runAcSymbol .lum 6 1 v.toNat s

/-- `AC_LUM_R6_S2`: `111111110110`, 2 literal bits (R212). -/
def execAcLumR6S2 (v : BitVec 2) (s : State) : Result := runAcSymbol .lum 6 2 v.toNat s

/-- `AC_LUM_R6_S3`: `1111111110100110`, 3 literal bits (R212). -/
def execAcLumR6S3 (v : BitVec 3) (s : State) : Result := runAcSymbol .lum 6 3 v.toNat s

/-- `AC_LUM_R6_S4`: `1111111110100111`, 4 literal bits (R212). -/
def execAcLumR6S4 (v : BitVec 4) (s : State) : Result := runAcSymbol .lum 6 4 v.toNat s

/-- `AC_LUM_R6_S5`: `1111111110101000`, 5 literal bits (R212). -/
def execAcLumR6S5 (v : BitVec 5) (s : State) : Result := runAcSymbol .lum 6 5 v.toNat s

/-- `AC_LUM_R6_S6`: `1111111110101001`, 6 literal bits (R212). -/
def execAcLumR6S6 (v : BitVec 6) (s : State) : Result := runAcSymbol .lum 6 6 v.toNat s

/-- `AC_LUM_R6_S7`: `1111111110101010`, 7 literal bits (R212). -/
def execAcLumR6S7 (v : BitVec 7) (s : State) : Result := runAcSymbol .lum 6 7 v.toNat s

/-- `AC_LUM_R6_S8`: `1111111110101011`, 8 literal bits (R212). -/
def execAcLumR6S8 (v : BitVec 8) (s : State) : Result := runAcSymbol .lum 6 8 v.toNat s

/-- `AC_LUM_R6_S9`: `1111111110101100`, 9 literal bits (R212). -/
def execAcLumR6S9 (v : BitVec 9) (s : State) : Result := runAcSymbol .lum 6 9 v.toNat s

/-- `AC_LUM_R6_S10`: `1111111110101101`, 10 literal bits (R212). -/
def execAcLumR6S10 (v : BitVec 10) (s : State) : Result := runAcSymbol .lum 6 10 v.toNat s

/-- `AC_LUM_R7_S1`: `11111010`, 1 literal bit (R212). -/
def execAcLumR7S1 (v : BitVec 1) (s : State) : Result := runAcSymbol .lum 7 1 v.toNat s

/-- `AC_LUM_R7_S2`: `111111110111`, 2 literal bits (R212). -/
def execAcLumR7S2 (v : BitVec 2) (s : State) : Result := runAcSymbol .lum 7 2 v.toNat s

/-- `AC_LUM_R7_S3`: `1111111110101110`, 3 literal bits (R212). -/
def execAcLumR7S3 (v : BitVec 3) (s : State) : Result := runAcSymbol .lum 7 3 v.toNat s

/-- `AC_LUM_R7_S4`: `1111111110101111`, 4 literal bits (R212). -/
def execAcLumR7S4 (v : BitVec 4) (s : State) : Result := runAcSymbol .lum 7 4 v.toNat s

/-- `AC_LUM_R7_S5`: `1111111110110000`, 5 literal bits (R212). -/
def execAcLumR7S5 (v : BitVec 5) (s : State) : Result := runAcSymbol .lum 7 5 v.toNat s

/-- `AC_LUM_R7_S6`: `1111111110110001`, 6 literal bits (R212). -/
def execAcLumR7S6 (v : BitVec 6) (s : State) : Result := runAcSymbol .lum 7 6 v.toNat s

/-- `AC_LUM_R7_S7`: `1111111110110010`, 7 literal bits (R212). -/
def execAcLumR7S7 (v : BitVec 7) (s : State) : Result := runAcSymbol .lum 7 7 v.toNat s

/-- `AC_LUM_R7_S8`: `1111111110110011`, 8 literal bits (R212). -/
def execAcLumR7S8 (v : BitVec 8) (s : State) : Result := runAcSymbol .lum 7 8 v.toNat s

/-- `AC_LUM_R7_S9`: `1111111110110100`, 9 literal bits (R212). -/
def execAcLumR7S9 (v : BitVec 9) (s : State) : Result := runAcSymbol .lum 7 9 v.toNat s

/-- `AC_LUM_R7_S10`: `1111111110110101`, 10 literal bits (R212). -/
def execAcLumR7S10 (v : BitVec 10) (s : State) : Result := runAcSymbol .lum 7 10 v.toNat s

/-- `AC_LUM_R8_S1`: `111111000`, 1 literal bit (R212). -/
def execAcLumR8S1 (v : BitVec 1) (s : State) : Result := runAcSymbol .lum 8 1 v.toNat s

/-- `AC_LUM_R8_S2`: `111111111000000`, 2 literal bits (R212). -/
def execAcLumR8S2 (v : BitVec 2) (s : State) : Result := runAcSymbol .lum 8 2 v.toNat s

/-- `AC_LUM_R8_S3`: `1111111110110110`, 3 literal bits (R212). -/
def execAcLumR8S3 (v : BitVec 3) (s : State) : Result := runAcSymbol .lum 8 3 v.toNat s

/-- `AC_LUM_R8_S4`: `1111111110110111`, 4 literal bits (R212). -/
def execAcLumR8S4 (v : BitVec 4) (s : State) : Result := runAcSymbol .lum 8 4 v.toNat s

/-- `AC_LUM_R8_S5`: `1111111110111000`, 5 literal bits (R212). -/
def execAcLumR8S5 (v : BitVec 5) (s : State) : Result := runAcSymbol .lum 8 5 v.toNat s

/-- `AC_LUM_R8_S6`: `1111111110111001`, 6 literal bits (R212). -/
def execAcLumR8S6 (v : BitVec 6) (s : State) : Result := runAcSymbol .lum 8 6 v.toNat s

/-- `AC_LUM_R8_S7`: `1111111110111010`, 7 literal bits (R212). -/
def execAcLumR8S7 (v : BitVec 7) (s : State) : Result := runAcSymbol .lum 8 7 v.toNat s

/-- `AC_LUM_R8_S8`: `1111111110111011`, 8 literal bits (R212). -/
def execAcLumR8S8 (v : BitVec 8) (s : State) : Result := runAcSymbol .lum 8 8 v.toNat s

/-- `AC_LUM_R8_S9`: `1111111110111100`, 9 literal bits (R212). -/
def execAcLumR8S9 (v : BitVec 9) (s : State) : Result := runAcSymbol .lum 8 9 v.toNat s

/-- `AC_LUM_R8_S10`: `1111111110111101`, 10 literal bits (R212). -/
def execAcLumR8S10 (v : BitVec 10) (s : State) : Result := runAcSymbol .lum 8 10 v.toNat s

/-- `AC_LUM_R9_S1`: `111111001`, 1 literal bit (R212). -/
def execAcLumR9S1 (v : BitVec 1) (s : State) : Result := runAcSymbol .lum 9 1 v.toNat s

/-- `AC_LUM_R9_S2`: `1111111110111110`, 2 literal bits (R212). -/
def execAcLumR9S2 (v : BitVec 2) (s : State) : Result := runAcSymbol .lum 9 2 v.toNat s

/-- `AC_LUM_R9_S3`: `1111111110111111`, 3 literal bits (R212). -/
def execAcLumR9S3 (v : BitVec 3) (s : State) : Result := runAcSymbol .lum 9 3 v.toNat s

/-- `AC_LUM_R9_S4`: `1111111111000000`, 4 literal bits (R212). -/
def execAcLumR9S4 (v : BitVec 4) (s : State) : Result := runAcSymbol .lum 9 4 v.toNat s

/-- `AC_LUM_R9_S5`: `1111111111000001`, 5 literal bits (R212). -/
def execAcLumR9S5 (v : BitVec 5) (s : State) : Result := runAcSymbol .lum 9 5 v.toNat s

/-- `AC_LUM_R9_S6`: `1111111111000010`, 6 literal bits (R212). -/
def execAcLumR9S6 (v : BitVec 6) (s : State) : Result := runAcSymbol .lum 9 6 v.toNat s

/-- `AC_LUM_R9_S7`: `1111111111000011`, 7 literal bits (R212). -/
def execAcLumR9S7 (v : BitVec 7) (s : State) : Result := runAcSymbol .lum 9 7 v.toNat s

/-- `AC_LUM_R9_S8`: `1111111111000100`, 8 literal bits (R212). -/
def execAcLumR9S8 (v : BitVec 8) (s : State) : Result := runAcSymbol .lum 9 8 v.toNat s

/-- `AC_LUM_R9_S9`: `1111111111000101`, 9 literal bits (R212). -/
def execAcLumR9S9 (v : BitVec 9) (s : State) : Result := runAcSymbol .lum 9 9 v.toNat s

/-- `AC_LUM_R9_S10`: `1111111111000110`, 10 literal bits (R212). -/
def execAcLumR9S10 (v : BitVec 10) (s : State) : Result := runAcSymbol .lum 9 10 v.toNat s

/-- `AC_LUM_R10_S1`: `111111010`, 1 literal bit (R212). -/
def execAcLumR10S1 (v : BitVec 1) (s : State) : Result := runAcSymbol .lum 10 1 v.toNat s

/-- `AC_LUM_R10_S2`: `1111111111000111`, 2 literal bits (R212). -/
def execAcLumR10S2 (v : BitVec 2) (s : State) : Result := runAcSymbol .lum 10 2 v.toNat s

/-- `AC_LUM_R10_S3`: `1111111111001000`, 3 literal bits (R212). -/
def execAcLumR10S3 (v : BitVec 3) (s : State) : Result := runAcSymbol .lum 10 3 v.toNat s

/-- `AC_LUM_R10_S4`: `1111111111001001`, 4 literal bits (R212). -/
def execAcLumR10S4 (v : BitVec 4) (s : State) : Result := runAcSymbol .lum 10 4 v.toNat s

/-- `AC_LUM_R10_S5`: `1111111111001010`, 5 literal bits (R212). -/
def execAcLumR10S5 (v : BitVec 5) (s : State) : Result := runAcSymbol .lum 10 5 v.toNat s

/-- `AC_LUM_R10_S6`: `1111111111001011`, 6 literal bits (R212). -/
def execAcLumR10S6 (v : BitVec 6) (s : State) : Result := runAcSymbol .lum 10 6 v.toNat s

/-- `AC_LUM_R10_S7`: `1111111111001100`, 7 literal bits (R212). -/
def execAcLumR10S7 (v : BitVec 7) (s : State) : Result := runAcSymbol .lum 10 7 v.toNat s

/-- `AC_LUM_R10_S8`: `1111111111001101`, 8 literal bits (R212). -/
def execAcLumR10S8 (v : BitVec 8) (s : State) : Result := runAcSymbol .lum 10 8 v.toNat s

/-- `AC_LUM_R10_S9`: `1111111111001110`, 9 literal bits (R212). -/
def execAcLumR10S9 (v : BitVec 9) (s : State) : Result := runAcSymbol .lum 10 9 v.toNat s

/-- `AC_LUM_R10_S10`: `1111111111001111`, 10 literal bits (R212). -/
def execAcLumR10S10 (v : BitVec 10) (s : State) : Result := runAcSymbol .lum 10 10 v.toNat s

/-- `AC_LUM_R11_S1`: `1111111001`, 1 literal bit (R212). -/
def execAcLumR11S1 (v : BitVec 1) (s : State) : Result := runAcSymbol .lum 11 1 v.toNat s

/-- `AC_LUM_R11_S2`: `1111111111010000`, 2 literal bits (R212). -/
def execAcLumR11S2 (v : BitVec 2) (s : State) : Result := runAcSymbol .lum 11 2 v.toNat s

/-- `AC_LUM_R11_S3`: `1111111111010001`, 3 literal bits (R212). -/
def execAcLumR11S3 (v : BitVec 3) (s : State) : Result := runAcSymbol .lum 11 3 v.toNat s

/-- `AC_LUM_R11_S4`: `1111111111010010`, 4 literal bits (R212). -/
def execAcLumR11S4 (v : BitVec 4) (s : State) : Result := runAcSymbol .lum 11 4 v.toNat s

/-- `AC_LUM_R11_S5`: `1111111111010011`, 5 literal bits (R212). -/
def execAcLumR11S5 (v : BitVec 5) (s : State) : Result := runAcSymbol .lum 11 5 v.toNat s

/-- `AC_LUM_R11_S6`: `1111111111010100`, 6 literal bits (R212). -/
def execAcLumR11S6 (v : BitVec 6) (s : State) : Result := runAcSymbol .lum 11 6 v.toNat s

/-- `AC_LUM_R11_S7`: `1111111111010101`, 7 literal bits (R212). -/
def execAcLumR11S7 (v : BitVec 7) (s : State) : Result := runAcSymbol .lum 11 7 v.toNat s

/-- `AC_LUM_R11_S8`: `1111111111010110`, 8 literal bits (R212). -/
def execAcLumR11S8 (v : BitVec 8) (s : State) : Result := runAcSymbol .lum 11 8 v.toNat s

/-- `AC_LUM_R11_S9`: `1111111111010111`, 9 literal bits (R212). -/
def execAcLumR11S9 (v : BitVec 9) (s : State) : Result := runAcSymbol .lum 11 9 v.toNat s

/-- `AC_LUM_R11_S10`: `1111111111011000`, 10 literal bits (R212). -/
def execAcLumR11S10 (v : BitVec 10) (s : State) : Result := runAcSymbol .lum 11 10 v.toNat s

/-- `AC_LUM_R12_S1`: `1111111010`, 1 literal bit (R212). -/
def execAcLumR12S1 (v : BitVec 1) (s : State) : Result := runAcSymbol .lum 12 1 v.toNat s

/-- `AC_LUM_R12_S2`: `1111111111011001`, 2 literal bits (R212). -/
def execAcLumR12S2 (v : BitVec 2) (s : State) : Result := runAcSymbol .lum 12 2 v.toNat s

/-- `AC_LUM_R12_S3`: `1111111111011010`, 3 literal bits (R212). -/
def execAcLumR12S3 (v : BitVec 3) (s : State) : Result := runAcSymbol .lum 12 3 v.toNat s

/-- `AC_LUM_R12_S4`: `1111111111011011`, 4 literal bits (R212). -/
def execAcLumR12S4 (v : BitVec 4) (s : State) : Result := runAcSymbol .lum 12 4 v.toNat s

/-- `AC_LUM_R12_S5`: `1111111111011100`, 5 literal bits (R212). -/
def execAcLumR12S5 (v : BitVec 5) (s : State) : Result := runAcSymbol .lum 12 5 v.toNat s

/-- `AC_LUM_R12_S6`: `1111111111011101`, 6 literal bits (R212). -/
def execAcLumR12S6 (v : BitVec 6) (s : State) : Result := runAcSymbol .lum 12 6 v.toNat s

/-- `AC_LUM_R12_S7`: `1111111111011110`, 7 literal bits (R212). -/
def execAcLumR12S7 (v : BitVec 7) (s : State) : Result := runAcSymbol .lum 12 7 v.toNat s

/-- `AC_LUM_R12_S8`: `1111111111011111`, 8 literal bits (R212). -/
def execAcLumR12S8 (v : BitVec 8) (s : State) : Result := runAcSymbol .lum 12 8 v.toNat s

/-- `AC_LUM_R12_S9`: `1111111111100000`, 9 literal bits (R212). -/
def execAcLumR12S9 (v : BitVec 9) (s : State) : Result := runAcSymbol .lum 12 9 v.toNat s

/-- `AC_LUM_R12_S10`: `1111111111100001`, 10 literal bits (R212). -/
def execAcLumR12S10 (v : BitVec 10) (s : State) : Result := runAcSymbol .lum 12 10 v.toNat s

/-- `AC_LUM_R13_S1`: `11111111000`, 1 literal bit (R212). -/
def execAcLumR13S1 (v : BitVec 1) (s : State) : Result := runAcSymbol .lum 13 1 v.toNat s

/-- `AC_LUM_R13_S2`: `1111111111100010`, 2 literal bits (R212). -/
def execAcLumR13S2 (v : BitVec 2) (s : State) : Result := runAcSymbol .lum 13 2 v.toNat s

/-- `AC_LUM_R13_S3`: `1111111111100011`, 3 literal bits (R212). -/
def execAcLumR13S3 (v : BitVec 3) (s : State) : Result := runAcSymbol .lum 13 3 v.toNat s

/-- `AC_LUM_R13_S4`: `1111111111100100`, 4 literal bits (R212). -/
def execAcLumR13S4 (v : BitVec 4) (s : State) : Result := runAcSymbol .lum 13 4 v.toNat s

/-- `AC_LUM_R13_S5`: `1111111111100101`, 5 literal bits (R212). -/
def execAcLumR13S5 (v : BitVec 5) (s : State) : Result := runAcSymbol .lum 13 5 v.toNat s

/-- `AC_LUM_R13_S6`: `1111111111100110`, 6 literal bits (R212). -/
def execAcLumR13S6 (v : BitVec 6) (s : State) : Result := runAcSymbol .lum 13 6 v.toNat s

/-- `AC_LUM_R13_S7`: `1111111111100111`, 7 literal bits (R212). -/
def execAcLumR13S7 (v : BitVec 7) (s : State) : Result := runAcSymbol .lum 13 7 v.toNat s

/-- `AC_LUM_R13_S8`: `1111111111101000`, 8 literal bits (R212). -/
def execAcLumR13S8 (v : BitVec 8) (s : State) : Result := runAcSymbol .lum 13 8 v.toNat s

/-- `AC_LUM_R13_S9`: `1111111111101001`, 9 literal bits (R212). -/
def execAcLumR13S9 (v : BitVec 9) (s : State) : Result := runAcSymbol .lum 13 9 v.toNat s

/-- `AC_LUM_R13_S10`: `1111111111101010`, 10 literal bits (R212). -/
def execAcLumR13S10 (v : BitVec 10) (s : State) : Result := runAcSymbol .lum 13 10 v.toNat s

/-- `AC_LUM_R14_S1`: `1111111111101011`, 1 literal bit (R212). -/
def execAcLumR14S1 (v : BitVec 1) (s : State) : Result := runAcSymbol .lum 14 1 v.toNat s

/-- `AC_LUM_R14_S2`: `1111111111101100`, 2 literal bits (R212). -/
def execAcLumR14S2 (v : BitVec 2) (s : State) : Result := runAcSymbol .lum 14 2 v.toNat s

/-- `AC_LUM_R14_S3`: `1111111111101101`, 3 literal bits (R212). -/
def execAcLumR14S3 (v : BitVec 3) (s : State) : Result := runAcSymbol .lum 14 3 v.toNat s

/-- `AC_LUM_R14_S4`: `1111111111101110`, 4 literal bits (R212). -/
def execAcLumR14S4 (v : BitVec 4) (s : State) : Result := runAcSymbol .lum 14 4 v.toNat s

/-- `AC_LUM_R14_S5`: `1111111111101111`, 5 literal bits (R212). -/
def execAcLumR14S5 (v : BitVec 5) (s : State) : Result := runAcSymbol .lum 14 5 v.toNat s

/-- `AC_LUM_R14_S6`: `1111111111110000`, 6 literal bits (R212). -/
def execAcLumR14S6 (v : BitVec 6) (s : State) : Result := runAcSymbol .lum 14 6 v.toNat s

/-- `AC_LUM_R14_S7`: `1111111111110001`, 7 literal bits (R212). -/
def execAcLumR14S7 (v : BitVec 7) (s : State) : Result := runAcSymbol .lum 14 7 v.toNat s

/-- `AC_LUM_R14_S8`: `1111111111110010`, 8 literal bits (R212). -/
def execAcLumR14S8 (v : BitVec 8) (s : State) : Result := runAcSymbol .lum 14 8 v.toNat s

/-- `AC_LUM_R14_S9`: `1111111111110011`, 9 literal bits (R212). -/
def execAcLumR14S9 (v : BitVec 9) (s : State) : Result := runAcSymbol .lum 14 9 v.toNat s

/-- `AC_LUM_R14_S10`: `1111111111110100`, 10 literal bits (R212). -/
def execAcLumR14S10 (v : BitVec 10) (s : State) : Result := runAcSymbol .lum 14 10 v.toNat s

/-- `AC_LUM_ZRL`: `11111111001` (R212). -/
def execAcLumZrl (s : State) : Result := runAcSymbol .lum 15 0 0 s

/-- `AC_LUM_R15_S1`: `1111111111110101`, 1 literal bit (R212). -/
def execAcLumR15S1 (v : BitVec 1) (s : State) : Result := runAcSymbol .lum 15 1 v.toNat s

/-- `AC_LUM_R15_S2`: `1111111111110110`, 2 literal bits (R212). -/
def execAcLumR15S2 (v : BitVec 2) (s : State) : Result := runAcSymbol .lum 15 2 v.toNat s

/-- `AC_LUM_R15_S3`: `1111111111110111`, 3 literal bits (R212). -/
def execAcLumR15S3 (v : BitVec 3) (s : State) : Result := runAcSymbol .lum 15 3 v.toNat s

/-- `AC_LUM_R15_S4`: `1111111111111000`, 4 literal bits (R212). -/
def execAcLumR15S4 (v : BitVec 4) (s : State) : Result := runAcSymbol .lum 15 4 v.toNat s

/-- `AC_LUM_R15_S5`: `1111111111111001`, 5 literal bits (R212). -/
def execAcLumR15S5 (v : BitVec 5) (s : State) : Result := runAcSymbol .lum 15 5 v.toNat s

/-- `AC_LUM_R15_S6`: `1111111111111010`, 6 literal bits (R212). -/
def execAcLumR15S6 (v : BitVec 6) (s : State) : Result := runAcSymbol .lum 15 6 v.toNat s

/-- `AC_LUM_R15_S7`: `1111111111111011`, 7 literal bits (R212). -/
def execAcLumR15S7 (v : BitVec 7) (s : State) : Result := runAcSymbol .lum 15 7 v.toNat s

/-- `AC_LUM_R15_S8`: `1111111111111100`, 8 literal bits (R212). -/
def execAcLumR15S8 (v : BitVec 8) (s : State) : Result := runAcSymbol .lum 15 8 v.toNat s

/-- `AC_LUM_R15_S9`: `1111111111111101`, 9 literal bits (R212). -/
def execAcLumR15S9 (v : BitVec 9) (s : State) : Result := runAcSymbol .lum 15 9 v.toNat s

/-- `AC_LUM_R15_S10`: `1111111111111110`, 10 literal bits (R212). -/
def execAcLumR15S10 (v : BitVec 10) (s : State) : Result := runAcSymbol .lum 15 10 v.toNat s

/-- `AC_CHR_EOB`: `00` (R212). -/
def execAcChrEob (s : State) : Result := runAcSymbol .chr 0 0 0 s

/-- `AC_CHR_R0_S1`: `01`, 1 literal bit (R212). -/
def execAcChrR0S1 (v : BitVec 1) (s : State) : Result := runAcSymbol .chr 0 1 v.toNat s

/-- `AC_CHR_R0_S2`: `100`, 2 literal bits (R212). -/
def execAcChrR0S2 (v : BitVec 2) (s : State) : Result := runAcSymbol .chr 0 2 v.toNat s

/-- `AC_CHR_R0_S3`: `1010`, 3 literal bits (R212). -/
def execAcChrR0S3 (v : BitVec 3) (s : State) : Result := runAcSymbol .chr 0 3 v.toNat s

/-- `AC_CHR_R0_S4`: `11000`, 4 literal bits (R212). -/
def execAcChrR0S4 (v : BitVec 4) (s : State) : Result := runAcSymbol .chr 0 4 v.toNat s

/-- `AC_CHR_R0_S5`: `11001`, 5 literal bits (R212). -/
def execAcChrR0S5 (v : BitVec 5) (s : State) : Result := runAcSymbol .chr 0 5 v.toNat s

/-- `AC_CHR_R0_S6`: `111000`, 6 literal bits (R212). -/
def execAcChrR0S6 (v : BitVec 6) (s : State) : Result := runAcSymbol .chr 0 6 v.toNat s

/-- `AC_CHR_R0_S7`: `1111000`, 7 literal bits (R212). -/
def execAcChrR0S7 (v : BitVec 7) (s : State) : Result := runAcSymbol .chr 0 7 v.toNat s

/-- `AC_CHR_R0_S8`: `111110100`, 8 literal bits (R212). -/
def execAcChrR0S8 (v : BitVec 8) (s : State) : Result := runAcSymbol .chr 0 8 v.toNat s

/-- `AC_CHR_R0_S9`: `1111110110`, 9 literal bits (R212). -/
def execAcChrR0S9 (v : BitVec 9) (s : State) : Result := runAcSymbol .chr 0 9 v.toNat s

/-- `AC_CHR_R0_S10`: `111111110100`, 10 literal bits (R212). -/
def execAcChrR0S10 (v : BitVec 10) (s : State) : Result := runAcSymbol .chr 0 10 v.toNat s

/-- `AC_CHR_R1_S1`: `1011`, 1 literal bit (R212). -/
def execAcChrR1S1 (v : BitVec 1) (s : State) : Result := runAcSymbol .chr 1 1 v.toNat s

/-- `AC_CHR_R1_S2`: `111001`, 2 literal bits (R212). -/
def execAcChrR1S2 (v : BitVec 2) (s : State) : Result := runAcSymbol .chr 1 2 v.toNat s

/-- `AC_CHR_R1_S3`: `11110110`, 3 literal bits (R212). -/
def execAcChrR1S3 (v : BitVec 3) (s : State) : Result := runAcSymbol .chr 1 3 v.toNat s

/-- `AC_CHR_R1_S4`: `111110101`, 4 literal bits (R212). -/
def execAcChrR1S4 (v : BitVec 4) (s : State) : Result := runAcSymbol .chr 1 4 v.toNat s

/-- `AC_CHR_R1_S5`: `11111110110`, 5 literal bits (R212). -/
def execAcChrR1S5 (v : BitVec 5) (s : State) : Result := runAcSymbol .chr 1 5 v.toNat s

/-- `AC_CHR_R1_S6`: `111111110101`, 6 literal bits (R212). -/
def execAcChrR1S6 (v : BitVec 6) (s : State) : Result := runAcSymbol .chr 1 6 v.toNat s

/-- `AC_CHR_R1_S7`: `1111111110001000`, 7 literal bits (R212). -/
def execAcChrR1S7 (v : BitVec 7) (s : State) : Result := runAcSymbol .chr 1 7 v.toNat s

/-- `AC_CHR_R1_S8`: `1111111110001001`, 8 literal bits (R212). -/
def execAcChrR1S8 (v : BitVec 8) (s : State) : Result := runAcSymbol .chr 1 8 v.toNat s

/-- `AC_CHR_R1_S9`: `1111111110001010`, 9 literal bits (R212). -/
def execAcChrR1S9 (v : BitVec 9) (s : State) : Result := runAcSymbol .chr 1 9 v.toNat s

/-- `AC_CHR_R1_S10`: `1111111110001011`, 10 literal bits (R212). -/
def execAcChrR1S10 (v : BitVec 10) (s : State) : Result := runAcSymbol .chr 1 10 v.toNat s

/-- `AC_CHR_R2_S1`: `11010`, 1 literal bit (R212). -/
def execAcChrR2S1 (v : BitVec 1) (s : State) : Result := runAcSymbol .chr 2 1 v.toNat s

/-- `AC_CHR_R2_S2`: `11110111`, 2 literal bits (R212). -/
def execAcChrR2S2 (v : BitVec 2) (s : State) : Result := runAcSymbol .chr 2 2 v.toNat s

/-- `AC_CHR_R2_S3`: `1111110111`, 3 literal bits (R212). -/
def execAcChrR2S3 (v : BitVec 3) (s : State) : Result := runAcSymbol .chr 2 3 v.toNat s

/-- `AC_CHR_R2_S4`: `111111110110`, 4 literal bits (R212). -/
def execAcChrR2S4 (v : BitVec 4) (s : State) : Result := runAcSymbol .chr 2 4 v.toNat s

/-- `AC_CHR_R2_S5`: `111111111000010`, 5 literal bits (R212). -/
def execAcChrR2S5 (v : BitVec 5) (s : State) : Result := runAcSymbol .chr 2 5 v.toNat s

/-- `AC_CHR_R2_S6`: `1111111110001100`, 6 literal bits (R212). -/
def execAcChrR2S6 (v : BitVec 6) (s : State) : Result := runAcSymbol .chr 2 6 v.toNat s

/-- `AC_CHR_R2_S7`: `1111111110001101`, 7 literal bits (R212). -/
def execAcChrR2S7 (v : BitVec 7) (s : State) : Result := runAcSymbol .chr 2 7 v.toNat s

/-- `AC_CHR_R2_S8`: `1111111110001110`, 8 literal bits (R212). -/
def execAcChrR2S8 (v : BitVec 8) (s : State) : Result := runAcSymbol .chr 2 8 v.toNat s

/-- `AC_CHR_R2_S9`: `1111111110001111`, 9 literal bits (R212). -/
def execAcChrR2S9 (v : BitVec 9) (s : State) : Result := runAcSymbol .chr 2 9 v.toNat s

/-- `AC_CHR_R2_S10`: `1111111110010000`, 10 literal bits (R212). -/
def execAcChrR2S10 (v : BitVec 10) (s : State) : Result := runAcSymbol .chr 2 10 v.toNat s

/-- `AC_CHR_R3_S1`: `11011`, 1 literal bit (R212). -/
def execAcChrR3S1 (v : BitVec 1) (s : State) : Result := runAcSymbol .chr 3 1 v.toNat s

/-- `AC_CHR_R3_S2`: `11111000`, 2 literal bits (R212). -/
def execAcChrR3S2 (v : BitVec 2) (s : State) : Result := runAcSymbol .chr 3 2 v.toNat s

/-- `AC_CHR_R3_S3`: `1111111000`, 3 literal bits (R212). -/
def execAcChrR3S3 (v : BitVec 3) (s : State) : Result := runAcSymbol .chr 3 3 v.toNat s

/-- `AC_CHR_R3_S4`: `111111110111`, 4 literal bits (R212). -/
def execAcChrR3S4 (v : BitVec 4) (s : State) : Result := runAcSymbol .chr 3 4 v.toNat s

/-- `AC_CHR_R3_S5`: `1111111110010001`, 5 literal bits (R212). -/
def execAcChrR3S5 (v : BitVec 5) (s : State) : Result := runAcSymbol .chr 3 5 v.toNat s

/-- `AC_CHR_R3_S6`: `1111111110010010`, 6 literal bits (R212). -/
def execAcChrR3S6 (v : BitVec 6) (s : State) : Result := runAcSymbol .chr 3 6 v.toNat s

/-- `AC_CHR_R3_S7`: `1111111110010011`, 7 literal bits (R212). -/
def execAcChrR3S7 (v : BitVec 7) (s : State) : Result := runAcSymbol .chr 3 7 v.toNat s

/-- `AC_CHR_R3_S8`: `1111111110010100`, 8 literal bits (R212). -/
def execAcChrR3S8 (v : BitVec 8) (s : State) : Result := runAcSymbol .chr 3 8 v.toNat s

/-- `AC_CHR_R3_S9`: `1111111110010101`, 9 literal bits (R212). -/
def execAcChrR3S9 (v : BitVec 9) (s : State) : Result := runAcSymbol .chr 3 9 v.toNat s

/-- `AC_CHR_R3_S10`: `1111111110010110`, 10 literal bits (R212). -/
def execAcChrR3S10 (v : BitVec 10) (s : State) : Result := runAcSymbol .chr 3 10 v.toNat s

/-- `AC_CHR_R4_S1`: `111010`, 1 literal bit (R212). -/
def execAcChrR4S1 (v : BitVec 1) (s : State) : Result := runAcSymbol .chr 4 1 v.toNat s

/-- `AC_CHR_R4_S2`: `111110110`, 2 literal bits (R212). -/
def execAcChrR4S2 (v : BitVec 2) (s : State) : Result := runAcSymbol .chr 4 2 v.toNat s

/-- `AC_CHR_R4_S3`: `1111111110010111`, 3 literal bits (R212). -/
def execAcChrR4S3 (v : BitVec 3) (s : State) : Result := runAcSymbol .chr 4 3 v.toNat s

/-- `AC_CHR_R4_S4`: `1111111110011000`, 4 literal bits (R212). -/
def execAcChrR4S4 (v : BitVec 4) (s : State) : Result := runAcSymbol .chr 4 4 v.toNat s

/-- `AC_CHR_R4_S5`: `1111111110011001`, 5 literal bits (R212). -/
def execAcChrR4S5 (v : BitVec 5) (s : State) : Result := runAcSymbol .chr 4 5 v.toNat s

/-- `AC_CHR_R4_S6`: `1111111110011010`, 6 literal bits (R212). -/
def execAcChrR4S6 (v : BitVec 6) (s : State) : Result := runAcSymbol .chr 4 6 v.toNat s

/-- `AC_CHR_R4_S7`: `1111111110011011`, 7 literal bits (R212). -/
def execAcChrR4S7 (v : BitVec 7) (s : State) : Result := runAcSymbol .chr 4 7 v.toNat s

/-- `AC_CHR_R4_S8`: `1111111110011100`, 8 literal bits (R212). -/
def execAcChrR4S8 (v : BitVec 8) (s : State) : Result := runAcSymbol .chr 4 8 v.toNat s

/-- `AC_CHR_R4_S9`: `1111111110011101`, 9 literal bits (R212). -/
def execAcChrR4S9 (v : BitVec 9) (s : State) : Result := runAcSymbol .chr 4 9 v.toNat s

/-- `AC_CHR_R4_S10`: `1111111110011110`, 10 literal bits (R212). -/
def execAcChrR4S10 (v : BitVec 10) (s : State) : Result := runAcSymbol .chr 4 10 v.toNat s

/-- `AC_CHR_R5_S1`: `111011`, 1 literal bit (R212). -/
def execAcChrR5S1 (v : BitVec 1) (s : State) : Result := runAcSymbol .chr 5 1 v.toNat s

/-- `AC_CHR_R5_S2`: `1111111001`, 2 literal bits (R212). -/
def execAcChrR5S2 (v : BitVec 2) (s : State) : Result := runAcSymbol .chr 5 2 v.toNat s

/-- `AC_CHR_R5_S3`: `1111111110011111`, 3 literal bits (R212). -/
def execAcChrR5S3 (v : BitVec 3) (s : State) : Result := runAcSymbol .chr 5 3 v.toNat s

/-- `AC_CHR_R5_S4`: `1111111110100000`, 4 literal bits (R212). -/
def execAcChrR5S4 (v : BitVec 4) (s : State) : Result := runAcSymbol .chr 5 4 v.toNat s

/-- `AC_CHR_R5_S5`: `1111111110100001`, 5 literal bits (R212). -/
def execAcChrR5S5 (v : BitVec 5) (s : State) : Result := runAcSymbol .chr 5 5 v.toNat s

/-- `AC_CHR_R5_S6`: `1111111110100010`, 6 literal bits (R212). -/
def execAcChrR5S6 (v : BitVec 6) (s : State) : Result := runAcSymbol .chr 5 6 v.toNat s

/-- `AC_CHR_R5_S7`: `1111111110100011`, 7 literal bits (R212). -/
def execAcChrR5S7 (v : BitVec 7) (s : State) : Result := runAcSymbol .chr 5 7 v.toNat s

/-- `AC_CHR_R5_S8`: `1111111110100100`, 8 literal bits (R212). -/
def execAcChrR5S8 (v : BitVec 8) (s : State) : Result := runAcSymbol .chr 5 8 v.toNat s

/-- `AC_CHR_R5_S9`: `1111111110100101`, 9 literal bits (R212). -/
def execAcChrR5S9 (v : BitVec 9) (s : State) : Result := runAcSymbol .chr 5 9 v.toNat s

/-- `AC_CHR_R5_S10`: `1111111110100110`, 10 literal bits (R212). -/
def execAcChrR5S10 (v : BitVec 10) (s : State) : Result := runAcSymbol .chr 5 10 v.toNat s

/-- `AC_CHR_R6_S1`: `1111001`, 1 literal bit (R212). -/
def execAcChrR6S1 (v : BitVec 1) (s : State) : Result := runAcSymbol .chr 6 1 v.toNat s

/-- `AC_CHR_R6_S2`: `11111110111`, 2 literal bits (R212). -/
def execAcChrR6S2 (v : BitVec 2) (s : State) : Result := runAcSymbol .chr 6 2 v.toNat s

/-- `AC_CHR_R6_S3`: `1111111110100111`, 3 literal bits (R212). -/
def execAcChrR6S3 (v : BitVec 3) (s : State) : Result := runAcSymbol .chr 6 3 v.toNat s

/-- `AC_CHR_R6_S4`: `1111111110101000`, 4 literal bits (R212). -/
def execAcChrR6S4 (v : BitVec 4) (s : State) : Result := runAcSymbol .chr 6 4 v.toNat s

/-- `AC_CHR_R6_S5`: `1111111110101001`, 5 literal bits (R212). -/
def execAcChrR6S5 (v : BitVec 5) (s : State) : Result := runAcSymbol .chr 6 5 v.toNat s

/-- `AC_CHR_R6_S6`: `1111111110101010`, 6 literal bits (R212). -/
def execAcChrR6S6 (v : BitVec 6) (s : State) : Result := runAcSymbol .chr 6 6 v.toNat s

/-- `AC_CHR_R6_S7`: `1111111110101011`, 7 literal bits (R212). -/
def execAcChrR6S7 (v : BitVec 7) (s : State) : Result := runAcSymbol .chr 6 7 v.toNat s

/-- `AC_CHR_R6_S8`: `1111111110101100`, 8 literal bits (R212). -/
def execAcChrR6S8 (v : BitVec 8) (s : State) : Result := runAcSymbol .chr 6 8 v.toNat s

/-- `AC_CHR_R6_S9`: `1111111110101101`, 9 literal bits (R212). -/
def execAcChrR6S9 (v : BitVec 9) (s : State) : Result := runAcSymbol .chr 6 9 v.toNat s

/-- `AC_CHR_R6_S10`: `1111111110101110`, 10 literal bits (R212). -/
def execAcChrR6S10 (v : BitVec 10) (s : State) : Result := runAcSymbol .chr 6 10 v.toNat s

/-- `AC_CHR_R7_S1`: `1111010`, 1 literal bit (R212). -/
def execAcChrR7S1 (v : BitVec 1) (s : State) : Result := runAcSymbol .chr 7 1 v.toNat s

/-- `AC_CHR_R7_S2`: `11111111000`, 2 literal bits (R212). -/
def execAcChrR7S2 (v : BitVec 2) (s : State) : Result := runAcSymbol .chr 7 2 v.toNat s

/-- `AC_CHR_R7_S3`: `1111111110101111`, 3 literal bits (R212). -/
def execAcChrR7S3 (v : BitVec 3) (s : State) : Result := runAcSymbol .chr 7 3 v.toNat s

/-- `AC_CHR_R7_S4`: `1111111110110000`, 4 literal bits (R212). -/
def execAcChrR7S4 (v : BitVec 4) (s : State) : Result := runAcSymbol .chr 7 4 v.toNat s

/-- `AC_CHR_R7_S5`: `1111111110110001`, 5 literal bits (R212). -/
def execAcChrR7S5 (v : BitVec 5) (s : State) : Result := runAcSymbol .chr 7 5 v.toNat s

/-- `AC_CHR_R7_S6`: `1111111110110010`, 6 literal bits (R212). -/
def execAcChrR7S6 (v : BitVec 6) (s : State) : Result := runAcSymbol .chr 7 6 v.toNat s

/-- `AC_CHR_R7_S7`: `1111111110110011`, 7 literal bits (R212). -/
def execAcChrR7S7 (v : BitVec 7) (s : State) : Result := runAcSymbol .chr 7 7 v.toNat s

/-- `AC_CHR_R7_S8`: `1111111110110100`, 8 literal bits (R212). -/
def execAcChrR7S8 (v : BitVec 8) (s : State) : Result := runAcSymbol .chr 7 8 v.toNat s

/-- `AC_CHR_R7_S9`: `1111111110110101`, 9 literal bits (R212). -/
def execAcChrR7S9 (v : BitVec 9) (s : State) : Result := runAcSymbol .chr 7 9 v.toNat s

/-- `AC_CHR_R7_S10`: `1111111110110110`, 10 literal bits (R212). -/
def execAcChrR7S10 (v : BitVec 10) (s : State) : Result := runAcSymbol .chr 7 10 v.toNat s

/-- `AC_CHR_R8_S1`: `11111001`, 1 literal bit (R212). -/
def execAcChrR8S1 (v : BitVec 1) (s : State) : Result := runAcSymbol .chr 8 1 v.toNat s

/-- `AC_CHR_R8_S2`: `1111111110110111`, 2 literal bits (R212). -/
def execAcChrR8S2 (v : BitVec 2) (s : State) : Result := runAcSymbol .chr 8 2 v.toNat s

/-- `AC_CHR_R8_S3`: `1111111110111000`, 3 literal bits (R212). -/
def execAcChrR8S3 (v : BitVec 3) (s : State) : Result := runAcSymbol .chr 8 3 v.toNat s

/-- `AC_CHR_R8_S4`: `1111111110111001`, 4 literal bits (R212). -/
def execAcChrR8S4 (v : BitVec 4) (s : State) : Result := runAcSymbol .chr 8 4 v.toNat s

/-- `AC_CHR_R8_S5`: `1111111110111010`, 5 literal bits (R212). -/
def execAcChrR8S5 (v : BitVec 5) (s : State) : Result := runAcSymbol .chr 8 5 v.toNat s

/-- `AC_CHR_R8_S6`: `1111111110111011`, 6 literal bits (R212). -/
def execAcChrR8S6 (v : BitVec 6) (s : State) : Result := runAcSymbol .chr 8 6 v.toNat s

/-- `AC_CHR_R8_S7`: `1111111110111100`, 7 literal bits (R212). -/
def execAcChrR8S7 (v : BitVec 7) (s : State) : Result := runAcSymbol .chr 8 7 v.toNat s

/-- `AC_CHR_R8_S8`: `1111111110111101`, 8 literal bits (R212). -/
def execAcChrR8S8 (v : BitVec 8) (s : State) : Result := runAcSymbol .chr 8 8 v.toNat s

/-- `AC_CHR_R8_S9`: `1111111110111110`, 9 literal bits (R212). -/
def execAcChrR8S9 (v : BitVec 9) (s : State) : Result := runAcSymbol .chr 8 9 v.toNat s

/-- `AC_CHR_R8_S10`: `1111111110111111`, 10 literal bits (R212). -/
def execAcChrR8S10 (v : BitVec 10) (s : State) : Result := runAcSymbol .chr 8 10 v.toNat s

/-- `AC_CHR_R9_S1`: `111110111`, 1 literal bit (R212). -/
def execAcChrR9S1 (v : BitVec 1) (s : State) : Result := runAcSymbol .chr 9 1 v.toNat s

/-- `AC_CHR_R9_S2`: `1111111111000000`, 2 literal bits (R212). -/
def execAcChrR9S2 (v : BitVec 2) (s : State) : Result := runAcSymbol .chr 9 2 v.toNat s

/-- `AC_CHR_R9_S3`: `1111111111000001`, 3 literal bits (R212). -/
def execAcChrR9S3 (v : BitVec 3) (s : State) : Result := runAcSymbol .chr 9 3 v.toNat s

/-- `AC_CHR_R9_S4`: `1111111111000010`, 4 literal bits (R212). -/
def execAcChrR9S4 (v : BitVec 4) (s : State) : Result := runAcSymbol .chr 9 4 v.toNat s

/-- `AC_CHR_R9_S5`: `1111111111000011`, 5 literal bits (R212). -/
def execAcChrR9S5 (v : BitVec 5) (s : State) : Result := runAcSymbol .chr 9 5 v.toNat s

/-- `AC_CHR_R9_S6`: `1111111111000100`, 6 literal bits (R212). -/
def execAcChrR9S6 (v : BitVec 6) (s : State) : Result := runAcSymbol .chr 9 6 v.toNat s

/-- `AC_CHR_R9_S7`: `1111111111000101`, 7 literal bits (R212). -/
def execAcChrR9S7 (v : BitVec 7) (s : State) : Result := runAcSymbol .chr 9 7 v.toNat s

/-- `AC_CHR_R9_S8`: `1111111111000110`, 8 literal bits (R212). -/
def execAcChrR9S8 (v : BitVec 8) (s : State) : Result := runAcSymbol .chr 9 8 v.toNat s

/-- `AC_CHR_R9_S9`: `1111111111000111`, 9 literal bits (R212). -/
def execAcChrR9S9 (v : BitVec 9) (s : State) : Result := runAcSymbol .chr 9 9 v.toNat s

/-- `AC_CHR_R9_S10`: `1111111111001000`, 10 literal bits (R212). -/
def execAcChrR9S10 (v : BitVec 10) (s : State) : Result := runAcSymbol .chr 9 10 v.toNat s

/-- `AC_CHR_R10_S1`: `111111000`, 1 literal bit (R212). -/
def execAcChrR10S1 (v : BitVec 1) (s : State) : Result := runAcSymbol .chr 10 1 v.toNat s

/-- `AC_CHR_R10_S2`: `1111111111001001`, 2 literal bits (R212). -/
def execAcChrR10S2 (v : BitVec 2) (s : State) : Result := runAcSymbol .chr 10 2 v.toNat s

/-- `AC_CHR_R10_S3`: `1111111111001010`, 3 literal bits (R212). -/
def execAcChrR10S3 (v : BitVec 3) (s : State) : Result := runAcSymbol .chr 10 3 v.toNat s

/-- `AC_CHR_R10_S4`: `1111111111001011`, 4 literal bits (R212). -/
def execAcChrR10S4 (v : BitVec 4) (s : State) : Result := runAcSymbol .chr 10 4 v.toNat s

/-- `AC_CHR_R10_S5`: `1111111111001100`, 5 literal bits (R212). -/
def execAcChrR10S5 (v : BitVec 5) (s : State) : Result := runAcSymbol .chr 10 5 v.toNat s

/-- `AC_CHR_R10_S6`: `1111111111001101`, 6 literal bits (R212). -/
def execAcChrR10S6 (v : BitVec 6) (s : State) : Result := runAcSymbol .chr 10 6 v.toNat s

/-- `AC_CHR_R10_S7`: `1111111111001110`, 7 literal bits (R212). -/
def execAcChrR10S7 (v : BitVec 7) (s : State) : Result := runAcSymbol .chr 10 7 v.toNat s

/-- `AC_CHR_R10_S8`: `1111111111001111`, 8 literal bits (R212). -/
def execAcChrR10S8 (v : BitVec 8) (s : State) : Result := runAcSymbol .chr 10 8 v.toNat s

/-- `AC_CHR_R10_S9`: `1111111111010000`, 9 literal bits (R212). -/
def execAcChrR10S9 (v : BitVec 9) (s : State) : Result := runAcSymbol .chr 10 9 v.toNat s

/-- `AC_CHR_R10_S10`: `1111111111010001`, 10 literal bits (R212). -/
def execAcChrR10S10 (v : BitVec 10) (s : State) : Result := runAcSymbol .chr 10 10 v.toNat s

/-- `AC_CHR_R11_S1`: `111111001`, 1 literal bit (R212). -/
def execAcChrR11S1 (v : BitVec 1) (s : State) : Result := runAcSymbol .chr 11 1 v.toNat s

/-- `AC_CHR_R11_S2`: `1111111111010010`, 2 literal bits (R212). -/
def execAcChrR11S2 (v : BitVec 2) (s : State) : Result := runAcSymbol .chr 11 2 v.toNat s

/-- `AC_CHR_R11_S3`: `1111111111010011`, 3 literal bits (R212). -/
def execAcChrR11S3 (v : BitVec 3) (s : State) : Result := runAcSymbol .chr 11 3 v.toNat s

/-- `AC_CHR_R11_S4`: `1111111111010100`, 4 literal bits (R212). -/
def execAcChrR11S4 (v : BitVec 4) (s : State) : Result := runAcSymbol .chr 11 4 v.toNat s

/-- `AC_CHR_R11_S5`: `1111111111010101`, 5 literal bits (R212). -/
def execAcChrR11S5 (v : BitVec 5) (s : State) : Result := runAcSymbol .chr 11 5 v.toNat s

/-- `AC_CHR_R11_S6`: `1111111111010110`, 6 literal bits (R212). -/
def execAcChrR11S6 (v : BitVec 6) (s : State) : Result := runAcSymbol .chr 11 6 v.toNat s

/-- `AC_CHR_R11_S7`: `1111111111010111`, 7 literal bits (R212). -/
def execAcChrR11S7 (v : BitVec 7) (s : State) : Result := runAcSymbol .chr 11 7 v.toNat s

/-- `AC_CHR_R11_S8`: `1111111111011000`, 8 literal bits (R212). -/
def execAcChrR11S8 (v : BitVec 8) (s : State) : Result := runAcSymbol .chr 11 8 v.toNat s

/-- `AC_CHR_R11_S9`: `1111111111011001`, 9 literal bits (R212). -/
def execAcChrR11S9 (v : BitVec 9) (s : State) : Result := runAcSymbol .chr 11 9 v.toNat s

/-- `AC_CHR_R11_S10`: `1111111111011010`, 10 literal bits (R212). -/
def execAcChrR11S10 (v : BitVec 10) (s : State) : Result := runAcSymbol .chr 11 10 v.toNat s

/-- `AC_CHR_R12_S1`: `111111010`, 1 literal bit (R212). -/
def execAcChrR12S1 (v : BitVec 1) (s : State) : Result := runAcSymbol .chr 12 1 v.toNat s

/-- `AC_CHR_R12_S2`: `1111111111011011`, 2 literal bits (R212). -/
def execAcChrR12S2 (v : BitVec 2) (s : State) : Result := runAcSymbol .chr 12 2 v.toNat s

/-- `AC_CHR_R12_S3`: `1111111111011100`, 3 literal bits (R212). -/
def execAcChrR12S3 (v : BitVec 3) (s : State) : Result := runAcSymbol .chr 12 3 v.toNat s

/-- `AC_CHR_R12_S4`: `1111111111011101`, 4 literal bits (R212). -/
def execAcChrR12S4 (v : BitVec 4) (s : State) : Result := runAcSymbol .chr 12 4 v.toNat s

/-- `AC_CHR_R12_S5`: `1111111111011110`, 5 literal bits (R212). -/
def execAcChrR12S5 (v : BitVec 5) (s : State) : Result := runAcSymbol .chr 12 5 v.toNat s

/-- `AC_CHR_R12_S6`: `1111111111011111`, 6 literal bits (R212). -/
def execAcChrR12S6 (v : BitVec 6) (s : State) : Result := runAcSymbol .chr 12 6 v.toNat s

/-- `AC_CHR_R12_S7`: `1111111111100000`, 7 literal bits (R212). -/
def execAcChrR12S7 (v : BitVec 7) (s : State) : Result := runAcSymbol .chr 12 7 v.toNat s

/-- `AC_CHR_R12_S8`: `1111111111100001`, 8 literal bits (R212). -/
def execAcChrR12S8 (v : BitVec 8) (s : State) : Result := runAcSymbol .chr 12 8 v.toNat s

/-- `AC_CHR_R12_S9`: `1111111111100010`, 9 literal bits (R212). -/
def execAcChrR12S9 (v : BitVec 9) (s : State) : Result := runAcSymbol .chr 12 9 v.toNat s

/-- `AC_CHR_R12_S10`: `1111111111100011`, 10 literal bits (R212). -/
def execAcChrR12S10 (v : BitVec 10) (s : State) : Result := runAcSymbol .chr 12 10 v.toNat s

/-- `AC_CHR_R13_S1`: `11111111001`, 1 literal bit (R212). -/
def execAcChrR13S1 (v : BitVec 1) (s : State) : Result := runAcSymbol .chr 13 1 v.toNat s

/-- `AC_CHR_R13_S2`: `1111111111100100`, 2 literal bits (R212). -/
def execAcChrR13S2 (v : BitVec 2) (s : State) : Result := runAcSymbol .chr 13 2 v.toNat s

/-- `AC_CHR_R13_S3`: `1111111111100101`, 3 literal bits (R212). -/
def execAcChrR13S3 (v : BitVec 3) (s : State) : Result := runAcSymbol .chr 13 3 v.toNat s

/-- `AC_CHR_R13_S4`: `1111111111100110`, 4 literal bits (R212). -/
def execAcChrR13S4 (v : BitVec 4) (s : State) : Result := runAcSymbol .chr 13 4 v.toNat s

/-- `AC_CHR_R13_S5`: `1111111111100111`, 5 literal bits (R212). -/
def execAcChrR13S5 (v : BitVec 5) (s : State) : Result := runAcSymbol .chr 13 5 v.toNat s

/-- `AC_CHR_R13_S6`: `1111111111101000`, 6 literal bits (R212). -/
def execAcChrR13S6 (v : BitVec 6) (s : State) : Result := runAcSymbol .chr 13 6 v.toNat s

/-- `AC_CHR_R13_S7`: `1111111111101001`, 7 literal bits (R212). -/
def execAcChrR13S7 (v : BitVec 7) (s : State) : Result := runAcSymbol .chr 13 7 v.toNat s

/-- `AC_CHR_R13_S8`: `1111111111101010`, 8 literal bits (R212). -/
def execAcChrR13S8 (v : BitVec 8) (s : State) : Result := runAcSymbol .chr 13 8 v.toNat s

/-- `AC_CHR_R13_S9`: `1111111111101011`, 9 literal bits (R212). -/
def execAcChrR13S9 (v : BitVec 9) (s : State) : Result := runAcSymbol .chr 13 9 v.toNat s

/-- `AC_CHR_R13_S10`: `1111111111101100`, 10 literal bits (R212). -/
def execAcChrR13S10 (v : BitVec 10) (s : State) : Result := runAcSymbol .chr 13 10 v.toNat s

/-- `AC_CHR_R14_S1`: `11111111100000`, 1 literal bit (R212). -/
def execAcChrR14S1 (v : BitVec 1) (s : State) : Result := runAcSymbol .chr 14 1 v.toNat s

/-- `AC_CHR_R14_S2`: `1111111111101101`, 2 literal bits (R212). -/
def execAcChrR14S2 (v : BitVec 2) (s : State) : Result := runAcSymbol .chr 14 2 v.toNat s

/-- `AC_CHR_R14_S3`: `1111111111101110`, 3 literal bits (R212). -/
def execAcChrR14S3 (v : BitVec 3) (s : State) : Result := runAcSymbol .chr 14 3 v.toNat s

/-- `AC_CHR_R14_S4`: `1111111111101111`, 4 literal bits (R212). -/
def execAcChrR14S4 (v : BitVec 4) (s : State) : Result := runAcSymbol .chr 14 4 v.toNat s

/-- `AC_CHR_R14_S5`: `1111111111110000`, 5 literal bits (R212). -/
def execAcChrR14S5 (v : BitVec 5) (s : State) : Result := runAcSymbol .chr 14 5 v.toNat s

/-- `AC_CHR_R14_S6`: `1111111111110001`, 6 literal bits (R212). -/
def execAcChrR14S6 (v : BitVec 6) (s : State) : Result := runAcSymbol .chr 14 6 v.toNat s

/-- `AC_CHR_R14_S7`: `1111111111110010`, 7 literal bits (R212). -/
def execAcChrR14S7 (v : BitVec 7) (s : State) : Result := runAcSymbol .chr 14 7 v.toNat s

/-- `AC_CHR_R14_S8`: `1111111111110011`, 8 literal bits (R212). -/
def execAcChrR14S8 (v : BitVec 8) (s : State) : Result := runAcSymbol .chr 14 8 v.toNat s

/-- `AC_CHR_R14_S9`: `1111111111110100`, 9 literal bits (R212). -/
def execAcChrR14S9 (v : BitVec 9) (s : State) : Result := runAcSymbol .chr 14 9 v.toNat s

/-- `AC_CHR_R14_S10`: `1111111111110101`, 10 literal bits (R212). -/
def execAcChrR14S10 (v : BitVec 10) (s : State) : Result := runAcSymbol .chr 14 10 v.toNat s

/-- `AC_CHR_ZRL`: `1111111010` (R212). -/
def execAcChrZrl (s : State) : Result := runAcSymbol .chr 15 0 0 s

/-- `AC_CHR_R15_S1`: `111111111000011`, 1 literal bit (R212). -/
def execAcChrR15S1 (v : BitVec 1) (s : State) : Result := runAcSymbol .chr 15 1 v.toNat s

/-- `AC_CHR_R15_S2`: `1111111111110110`, 2 literal bits (R212). -/
def execAcChrR15S2 (v : BitVec 2) (s : State) : Result := runAcSymbol .chr 15 2 v.toNat s

/-- `AC_CHR_R15_S3`: `1111111111110111`, 3 literal bits (R212). -/
def execAcChrR15S3 (v : BitVec 3) (s : State) : Result := runAcSymbol .chr 15 3 v.toNat s

/-- `AC_CHR_R15_S4`: `1111111111111000`, 4 literal bits (R212). -/
def execAcChrR15S4 (v : BitVec 4) (s : State) : Result := runAcSymbol .chr 15 4 v.toNat s

/-- `AC_CHR_R15_S5`: `1111111111111001`, 5 literal bits (R212). -/
def execAcChrR15S5 (v : BitVec 5) (s : State) : Result := runAcSymbol .chr 15 5 v.toNat s

/-- `AC_CHR_R15_S6`: `1111111111111010`, 6 literal bits (R212). -/
def execAcChrR15S6 (v : BitVec 6) (s : State) : Result := runAcSymbol .chr 15 6 v.toNat s

/-- `AC_CHR_R15_S7`: `1111111111111011`, 7 literal bits (R212). -/
def execAcChrR15S7 (v : BitVec 7) (s : State) : Result := runAcSymbol .chr 15 7 v.toNat s

/-- `AC_CHR_R15_S8`: `1111111111111100`, 8 literal bits (R212). -/
def execAcChrR15S8 (v : BitVec 8) (s : State) : Result := runAcSymbol .chr 15 8 v.toNat s

/-- `AC_CHR_R15_S9`: `1111111111111101`, 9 literal bits (R212). -/
def execAcChrR15S9 (v : BitVec 9) (s : State) : Result := runAcSymbol .chr 15 9 v.toNat s

/-- `AC_CHR_R15_S10`: `1111111111111110`, 10 literal bits (R212). -/
def execAcChrR15S10 (v : BitVec 10) (s : State) : Result := runAcSymbol .chr 15 10 v.toNat s

end Sys2Proof.Machine
end

