-- ==== Sys2Proof/Machine/Dispatch.lean ====
section
/-! DEFINITION. One arm per instruction (48_dispatcher R260, R261). -/

namespace Sys2Proof.Machine

open Sys2Proof

def exec (i : Instr) (s : State) : Host.Outcome State Fault Refusal :=
  match i with
  | .nop => Sys2Proof.Machine.execNop s
  | .clr => Sys2Proof.Machine.execClr s
  | .cfgq q => Sys2Proof.Machine.execCfgq q s
  | .cfgg g => Sys2Proof.Machine.execCfgg g s
  | .ldx => Sys2Proof.Machine.execLdx s
  | .stx => Sys2Proof.Machine.execStx s
  | .fdct => Sys2Proof.Machine.execFdct s
  | .idct => Sys2Proof.Machine.execIdct s
  | .qnt l => Sys2Proof.Machine.execQnt l s
  | .dqt l => Sys2Proof.Machine.execDqt l s
  | .zz => Sys2Proof.Machine.execZz s
  | .izz => Sys2Proof.Machine.execIzz s
  | .dce l => Sys2Proof.Machine.execDce l s
  | .dcd l => Sys2Proof.Machine.execDcd l s
  | .rle => Sys2Proof.Machine.execRle s
  | .rld => Sys2Proof.Machine.execRld s
  | .hedc l => Sys2Proof.Machine.execHedc l s
  | .heac l => Sys2Proof.Machine.execHeac l s
  | .hddc l => Sys2Proof.Machine.execHddc l s
  | .hdac l => Sys2Proof.Machine.execHdac l s
  | .pack => Sys2Proof.Machine.execPack s
  | .slice => Sys2Proof.Machine.execSlice s
  | .encblk l => Sys2Proof.Machine.execEncblk l s
  | .decblk l => Sys2Proof.Machine.execDecblk l s
  | .dcLumS0 => Sys2Proof.Machine.execDcLumS0 s
  | .dcLumS1 v => Sys2Proof.Machine.execDcLumS1 v s
  | .dcLumS2 v => Sys2Proof.Machine.execDcLumS2 v s
  | .dcLumS3 v => Sys2Proof.Machine.execDcLumS3 v s
  | .dcLumS4 v => Sys2Proof.Machine.execDcLumS4 v s
  | .dcLumS5 v => Sys2Proof.Machine.execDcLumS5 v s
  | .dcLumS6 v => Sys2Proof.Machine.execDcLumS6 v s
  | .dcLumS7 v => Sys2Proof.Machine.execDcLumS7 v s
  | .dcLumS8 v => Sys2Proof.Machine.execDcLumS8 v s
  | .dcLumS9 v => Sys2Proof.Machine.execDcLumS9 v s
  | .dcLumS10 v => Sys2Proof.Machine.execDcLumS10 v s
  | .dcLumS11 v => Sys2Proof.Machine.execDcLumS11 v s
  | .dcChrS0 => Sys2Proof.Machine.execDcChrS0 s
  | .dcChrS1 v => Sys2Proof.Machine.execDcChrS1 v s
  | .dcChrS2 v => Sys2Proof.Machine.execDcChrS2 v s
  | .dcChrS3 v => Sys2Proof.Machine.execDcChrS3 v s
  | .dcChrS4 v => Sys2Proof.Machine.execDcChrS4 v s
  | .dcChrS5 v => Sys2Proof.Machine.execDcChrS5 v s
  | .dcChrS6 v => Sys2Proof.Machine.execDcChrS6 v s
  | .dcChrS7 v => Sys2Proof.Machine.execDcChrS7 v s
  | .dcChrS8 v => Sys2Proof.Machine.execDcChrS8 v s
  | .dcChrS9 v => Sys2Proof.Machine.execDcChrS9 v s
  | .dcChrS10 v => Sys2Proof.Machine.execDcChrS10 v s
  | .dcChrS11 v => Sys2Proof.Machine.execDcChrS11 v s
  | .acLumEob => Sys2Proof.Machine.execAcLumEob s
  | .acLumR0S1 v => Sys2Proof.Machine.execAcLumR0S1 v s
  | .acLumR0S2 v => Sys2Proof.Machine.execAcLumR0S2 v s
  | .acLumR0S3 v => Sys2Proof.Machine.execAcLumR0S3 v s
  | .acLumR0S4 v => Sys2Proof.Machine.execAcLumR0S4 v s
  | .acLumR0S5 v => Sys2Proof.Machine.execAcLumR0S5 v s
  | .acLumR0S6 v => Sys2Proof.Machine.execAcLumR0S6 v s
  | .acLumR0S7 v => Sys2Proof.Machine.execAcLumR0S7 v s
  | .acLumR0S8 v => Sys2Proof.Machine.execAcLumR0S8 v s
  | .acLumR0S9 v => Sys2Proof.Machine.execAcLumR0S9 v s
  | .acLumR0S10 v => Sys2Proof.Machine.execAcLumR0S10 v s
  | .acLumR1S1 v => Sys2Proof.Machine.execAcLumR1S1 v s
  | .acLumR1S2 v => Sys2Proof.Machine.execAcLumR1S2 v s
  | .acLumR1S3 v => Sys2Proof.Machine.execAcLumR1S3 v s
  | .acLumR1S4 v => Sys2Proof.Machine.execAcLumR1S4 v s
  | .acLumR1S5 v => Sys2Proof.Machine.execAcLumR1S5 v s
  | .acLumR1S6 v => Sys2Proof.Machine.execAcLumR1S6 v s
  | .acLumR1S7 v => Sys2Proof.Machine.execAcLumR1S7 v s
  | .acLumR1S8 v => Sys2Proof.Machine.execAcLumR1S8 v s
  | .acLumR1S9 v => Sys2Proof.Machine.execAcLumR1S9 v s
  | .acLumR1S10 v => Sys2Proof.Machine.execAcLumR1S10 v s
  | .acLumR2S1 v => Sys2Proof.Machine.execAcLumR2S1 v s
  | .acLumR2S2 v => Sys2Proof.Machine.execAcLumR2S2 v s
  | .acLumR2S3 v => Sys2Proof.Machine.execAcLumR2S3 v s
  | .acLumR2S4 v => Sys2Proof.Machine.execAcLumR2S4 v s
  | .acLumR2S5 v => Sys2Proof.Machine.execAcLumR2S5 v s
  | .acLumR2S6 v => Sys2Proof.Machine.execAcLumR2S6 v s
  | .acLumR2S7 v => Sys2Proof.Machine.execAcLumR2S7 v s
  | .acLumR2S8 v => Sys2Proof.Machine.execAcLumR2S8 v s
  | .acLumR2S9 v => Sys2Proof.Machine.execAcLumR2S9 v s
  | .acLumR2S10 v => Sys2Proof.Machine.execAcLumR2S10 v s
  | .acLumR3S1 v => Sys2Proof.Machine.execAcLumR3S1 v s
  | .acLumR3S2 v => Sys2Proof.Machine.execAcLumR3S2 v s
  | .acLumR3S3 v => Sys2Proof.Machine.execAcLumR3S3 v s
  | .acLumR3S4 v => Sys2Proof.Machine.execAcLumR3S4 v s
  | .acLumR3S5 v => Sys2Proof.Machine.execAcLumR3S5 v s
  | .acLumR3S6 v => Sys2Proof.Machine.execAcLumR3S6 v s
  | .acLumR3S7 v => Sys2Proof.Machine.execAcLumR3S7 v s
  | .acLumR3S8 v => Sys2Proof.Machine.execAcLumR3S8 v s
  | .acLumR3S9 v => Sys2Proof.Machine.execAcLumR3S9 v s
  | .acLumR3S10 v => Sys2Proof.Machine.execAcLumR3S10 v s
  | .acLumR4S1 v => Sys2Proof.Machine.execAcLumR4S1 v s
  | .acLumR4S2 v => Sys2Proof.Machine.execAcLumR4S2 v s
  | .acLumR4S3 v => Sys2Proof.Machine.execAcLumR4S3 v s
  | .acLumR4S4 v => Sys2Proof.Machine.execAcLumR4S4 v s
  | .acLumR4S5 v => Sys2Proof.Machine.execAcLumR4S5 v s
  | .acLumR4S6 v => Sys2Proof.Machine.execAcLumR4S6 v s
  | .acLumR4S7 v => Sys2Proof.Machine.execAcLumR4S7 v s
  | .acLumR4S8 v => Sys2Proof.Machine.execAcLumR4S8 v s
  | .acLumR4S9 v => Sys2Proof.Machine.execAcLumR4S9 v s
  | .acLumR4S10 v => Sys2Proof.Machine.execAcLumR4S10 v s
  | .acLumR5S1 v => Sys2Proof.Machine.execAcLumR5S1 v s
  | .acLumR5S2 v => Sys2Proof.Machine.execAcLumR5S2 v s
  | .acLumR5S3 v => Sys2Proof.Machine.execAcLumR5S3 v s
  | .acLumR5S4 v => Sys2Proof.Machine.execAcLumR5S4 v s
  | .acLumR5S5 v => Sys2Proof.Machine.execAcLumR5S5 v s
  | .acLumR5S6 v => Sys2Proof.Machine.execAcLumR5S6 v s
  | .acLumR5S7 v => Sys2Proof.Machine.execAcLumR5S7 v s
  | .acLumR5S8 v => Sys2Proof.Machine.execAcLumR5S8 v s
  | .acLumR5S9 v => Sys2Proof.Machine.execAcLumR5S9 v s
  | .acLumR5S10 v => Sys2Proof.Machine.execAcLumR5S10 v s
  | .acLumR6S1 v => Sys2Proof.Machine.execAcLumR6S1 v s
  | .acLumR6S2 v => Sys2Proof.Machine.execAcLumR6S2 v s
  | .acLumR6S3 v => Sys2Proof.Machine.execAcLumR6S3 v s
  | .acLumR6S4 v => Sys2Proof.Machine.execAcLumR6S4 v s
  | .acLumR6S5 v => Sys2Proof.Machine.execAcLumR6S5 v s
  | .acLumR6S6 v => Sys2Proof.Machine.execAcLumR6S6 v s
  | .acLumR6S7 v => Sys2Proof.Machine.execAcLumR6S7 v s
  | .acLumR6S8 v => Sys2Proof.Machine.execAcLumR6S8 v s
  | .acLumR6S9 v => Sys2Proof.Machine.execAcLumR6S9 v s
  | .acLumR6S10 v => Sys2Proof.Machine.execAcLumR6S10 v s
  | .acLumR7S1 v => Sys2Proof.Machine.execAcLumR7S1 v s
  | .acLumR7S2 v => Sys2Proof.Machine.execAcLumR7S2 v s
  | .acLumR7S3 v => Sys2Proof.Machine.execAcLumR7S3 v s
  | .acLumR7S4 v => Sys2Proof.Machine.execAcLumR7S4 v s
  | .acLumR7S5 v => Sys2Proof.Machine.execAcLumR7S5 v s
  | .acLumR7S6 v => Sys2Proof.Machine.execAcLumR7S6 v s
  | .acLumR7S7 v => Sys2Proof.Machine.execAcLumR7S7 v s
  | .acLumR7S8 v => Sys2Proof.Machine.execAcLumR7S8 v s
  | .acLumR7S9 v => Sys2Proof.Machine.execAcLumR7S9 v s
  | .acLumR7S10 v => Sys2Proof.Machine.execAcLumR7S10 v s
  | .acLumR8S1 v => Sys2Proof.Machine.execAcLumR8S1 v s
  | .acLumR8S2 v => Sys2Proof.Machine.execAcLumR8S2 v s
  | .acLumR8S3 v => Sys2Proof.Machine.execAcLumR8S3 v s
  | .acLumR8S4 v => Sys2Proof.Machine.execAcLumR8S4 v s
  | .acLumR8S5 v => Sys2Proof.Machine.execAcLumR8S5 v s
  | .acLumR8S6 v => Sys2Proof.Machine.execAcLumR8S6 v s
  | .acLumR8S7 v => Sys2Proof.Machine.execAcLumR8S7 v s
  | .acLumR8S8 v => Sys2Proof.Machine.execAcLumR8S8 v s
  | .acLumR8S9 v => Sys2Proof.Machine.execAcLumR8S9 v s
  | .acLumR8S10 v => Sys2Proof.Machine.execAcLumR8S10 v s
  | .acLumR9S1 v => Sys2Proof.Machine.execAcLumR9S1 v s
  | .acLumR9S2 v => Sys2Proof.Machine.execAcLumR9S2 v s
  | .acLumR9S3 v => Sys2Proof.Machine.execAcLumR9S3 v s
  | .acLumR9S4 v => Sys2Proof.Machine.execAcLumR9S4 v s
  | .acLumR9S5 v => Sys2Proof.Machine.execAcLumR9S5 v s
  | .acLumR9S6 v => Sys2Proof.Machine.execAcLumR9S6 v s
  | .acLumR9S7 v => Sys2Proof.Machine.execAcLumR9S7 v s
  | .acLumR9S8 v => Sys2Proof.Machine.execAcLumR9S8 v s
  | .acLumR9S9 v => Sys2Proof.Machine.execAcLumR9S9 v s
  | .acLumR9S10 v => Sys2Proof.Machine.execAcLumR9S10 v s
  | .acLumR10S1 v => Sys2Proof.Machine.execAcLumR10S1 v s
  | .acLumR10S2 v => Sys2Proof.Machine.execAcLumR10S2 v s
  | .acLumR10S3 v => Sys2Proof.Machine.execAcLumR10S3 v s
  | .acLumR10S4 v => Sys2Proof.Machine.execAcLumR10S4 v s
  | .acLumR10S5 v => Sys2Proof.Machine.execAcLumR10S5 v s
  | .acLumR10S6 v => Sys2Proof.Machine.execAcLumR10S6 v s
  | .acLumR10S7 v => Sys2Proof.Machine.execAcLumR10S7 v s
  | .acLumR10S8 v => Sys2Proof.Machine.execAcLumR10S8 v s
  | .acLumR10S9 v => Sys2Proof.Machine.execAcLumR10S9 v s
  | .acLumR10S10 v => Sys2Proof.Machine.execAcLumR10S10 v s
  | .acLumR11S1 v => Sys2Proof.Machine.execAcLumR11S1 v s
  | .acLumR11S2 v => Sys2Proof.Machine.execAcLumR11S2 v s
  | .acLumR11S3 v => Sys2Proof.Machine.execAcLumR11S3 v s
  | .acLumR11S4 v => Sys2Proof.Machine.execAcLumR11S4 v s
  | .acLumR11S5 v => Sys2Proof.Machine.execAcLumR11S5 v s
  | .acLumR11S6 v => Sys2Proof.Machine.execAcLumR11S6 v s
  | .acLumR11S7 v => Sys2Proof.Machine.execAcLumR11S7 v s
  | .acLumR11S8 v => Sys2Proof.Machine.execAcLumR11S8 v s
  | .acLumR11S9 v => Sys2Proof.Machine.execAcLumR11S9 v s
  | .acLumR11S10 v => Sys2Proof.Machine.execAcLumR11S10 v s
  | .acLumR12S1 v => Sys2Proof.Machine.execAcLumR12S1 v s
  | .acLumR12S2 v => Sys2Proof.Machine.execAcLumR12S2 v s
  | .acLumR12S3 v => Sys2Proof.Machine.execAcLumR12S3 v s
  | .acLumR12S4 v => Sys2Proof.Machine.execAcLumR12S4 v s
  | .acLumR12S5 v => Sys2Proof.Machine.execAcLumR12S5 v s
  | .acLumR12S6 v => Sys2Proof.Machine.execAcLumR12S6 v s
  | .acLumR12S7 v => Sys2Proof.Machine.execAcLumR12S7 v s
  | .acLumR12S8 v => Sys2Proof.Machine.execAcLumR12S8 v s
  | .acLumR12S9 v => Sys2Proof.Machine.execAcLumR12S9 v s
  | .acLumR12S10 v => Sys2Proof.Machine.execAcLumR12S10 v s
  | .acLumR13S1 v => Sys2Proof.Machine.execAcLumR13S1 v s
  | .acLumR13S2 v => Sys2Proof.Machine.execAcLumR13S2 v s
  | .acLumR13S3 v => Sys2Proof.Machine.execAcLumR13S3 v s
  | .acLumR13S4 v => Sys2Proof.Machine.execAcLumR13S4 v s
  | .acLumR13S5 v => Sys2Proof.Machine.execAcLumR13S5 v s
  | .acLumR13S6 v => Sys2Proof.Machine.execAcLumR13S6 v s
  | .acLumR13S7 v => Sys2Proof.Machine.execAcLumR13S7 v s
  | .acLumR13S8 v => Sys2Proof.Machine.execAcLumR13S8 v s
  | .acLumR13S9 v => Sys2Proof.Machine.execAcLumR13S9 v s
  | .acLumR13S10 v => Sys2Proof.Machine.execAcLumR13S10 v s
  | .acLumR14S1 v => Sys2Proof.Machine.execAcLumR14S1 v s
  | .acLumR14S2 v => Sys2Proof.Machine.execAcLumR14S2 v s
  | .acLumR14S3 v => Sys2Proof.Machine.execAcLumR14S3 v s
  | .acLumR14S4 v => Sys2Proof.Machine.execAcLumR14S4 v s
  | .acLumR14S5 v => Sys2Proof.Machine.execAcLumR14S5 v s
  | .acLumR14S6 v => Sys2Proof.Machine.execAcLumR14S6 v s
  | .acLumR14S7 v => Sys2Proof.Machine.execAcLumR14S7 v s
  | .acLumR14S8 v => Sys2Proof.Machine.execAcLumR14S8 v s
  | .acLumR14S9 v => Sys2Proof.Machine.execAcLumR14S9 v s
  | .acLumR14S10 v => Sys2Proof.Machine.execAcLumR14S10 v s
  | .acLumZrl => Sys2Proof.Machine.execAcLumZrl s
  | .acLumR15S1 v => Sys2Proof.Machine.execAcLumR15S1 v s
  | .acLumR15S2 v => Sys2Proof.Machine.execAcLumR15S2 v s
  | .acLumR15S3 v => Sys2Proof.Machine.execAcLumR15S3 v s
  | .acLumR15S4 v => Sys2Proof.Machine.execAcLumR15S4 v s
  | .acLumR15S5 v => Sys2Proof.Machine.execAcLumR15S5 v s
  | .acLumR15S6 v => Sys2Proof.Machine.execAcLumR15S6 v s
  | .acLumR15S7 v => Sys2Proof.Machine.execAcLumR15S7 v s
  | .acLumR15S8 v => Sys2Proof.Machine.execAcLumR15S8 v s
  | .acLumR15S9 v => Sys2Proof.Machine.execAcLumR15S9 v s
  | .acLumR15S10 v => Sys2Proof.Machine.execAcLumR15S10 v s
  | .acChrEob => Sys2Proof.Machine.execAcChrEob s
  | .acChrR0S1 v => Sys2Proof.Machine.execAcChrR0S1 v s
  | .acChrR0S2 v => Sys2Proof.Machine.execAcChrR0S2 v s
  | .acChrR0S3 v => Sys2Proof.Machine.execAcChrR0S3 v s
  | .acChrR0S4 v => Sys2Proof.Machine.execAcChrR0S4 v s
  | .acChrR0S5 v => Sys2Proof.Machine.execAcChrR0S5 v s
  | .acChrR0S6 v => Sys2Proof.Machine.execAcChrR0S6 v s
  | .acChrR0S7 v => Sys2Proof.Machine.execAcChrR0S7 v s
  | .acChrR0S8 v => Sys2Proof.Machine.execAcChrR0S8 v s
  | .acChrR0S9 v => Sys2Proof.Machine.execAcChrR0S9 v s
  | .acChrR0S10 v => Sys2Proof.Machine.execAcChrR0S10 v s
  | .acChrR1S1 v => Sys2Proof.Machine.execAcChrR1S1 v s
  | .acChrR1S2 v => Sys2Proof.Machine.execAcChrR1S2 v s
  | .acChrR1S3 v => Sys2Proof.Machine.execAcChrR1S3 v s
  | .acChrR1S4 v => Sys2Proof.Machine.execAcChrR1S4 v s
  | .acChrR1S5 v => Sys2Proof.Machine.execAcChrR1S5 v s
  | .acChrR1S6 v => Sys2Proof.Machine.execAcChrR1S6 v s
  | .acChrR1S7 v => Sys2Proof.Machine.execAcChrR1S7 v s
  | .acChrR1S8 v => Sys2Proof.Machine.execAcChrR1S8 v s
  | .acChrR1S9 v => Sys2Proof.Machine.execAcChrR1S9 v s
  | .acChrR1S10 v => Sys2Proof.Machine.execAcChrR1S10 v s
  | .acChrR2S1 v => Sys2Proof.Machine.execAcChrR2S1 v s
  | .acChrR2S2 v => Sys2Proof.Machine.execAcChrR2S2 v s
  | .acChrR2S3 v => Sys2Proof.Machine.execAcChrR2S3 v s
  | .acChrR2S4 v => Sys2Proof.Machine.execAcChrR2S4 v s
  | .acChrR2S5 v => Sys2Proof.Machine.execAcChrR2S5 v s
  | .acChrR2S6 v => Sys2Proof.Machine.execAcChrR2S6 v s
  | .acChrR2S7 v => Sys2Proof.Machine.execAcChrR2S7 v s
  | .acChrR2S8 v => Sys2Proof.Machine.execAcChrR2S8 v s
  | .acChrR2S9 v => Sys2Proof.Machine.execAcChrR2S9 v s
  | .acChrR2S10 v => Sys2Proof.Machine.execAcChrR2S10 v s
  | .acChrR3S1 v => Sys2Proof.Machine.execAcChrR3S1 v s
  | .acChrR3S2 v => Sys2Proof.Machine.execAcChrR3S2 v s
  | .acChrR3S3 v => Sys2Proof.Machine.execAcChrR3S3 v s
  | .acChrR3S4 v => Sys2Proof.Machine.execAcChrR3S4 v s
  | .acChrR3S5 v => Sys2Proof.Machine.execAcChrR3S5 v s
  | .acChrR3S6 v => Sys2Proof.Machine.execAcChrR3S6 v s
  | .acChrR3S7 v => Sys2Proof.Machine.execAcChrR3S7 v s
  | .acChrR3S8 v => Sys2Proof.Machine.execAcChrR3S8 v s
  | .acChrR3S9 v => Sys2Proof.Machine.execAcChrR3S9 v s
  | .acChrR3S10 v => Sys2Proof.Machine.execAcChrR3S10 v s
  | .acChrR4S1 v => Sys2Proof.Machine.execAcChrR4S1 v s
  | .acChrR4S2 v => Sys2Proof.Machine.execAcChrR4S2 v s
  | .acChrR4S3 v => Sys2Proof.Machine.execAcChrR4S3 v s
  | .acChrR4S4 v => Sys2Proof.Machine.execAcChrR4S4 v s
  | .acChrR4S5 v => Sys2Proof.Machine.execAcChrR4S5 v s
  | .acChrR4S6 v => Sys2Proof.Machine.execAcChrR4S6 v s
  | .acChrR4S7 v => Sys2Proof.Machine.execAcChrR4S7 v s
  | .acChrR4S8 v => Sys2Proof.Machine.execAcChrR4S8 v s
  | .acChrR4S9 v => Sys2Proof.Machine.execAcChrR4S9 v s
  | .acChrR4S10 v => Sys2Proof.Machine.execAcChrR4S10 v s
  | .acChrR5S1 v => Sys2Proof.Machine.execAcChrR5S1 v s
  | .acChrR5S2 v => Sys2Proof.Machine.execAcChrR5S2 v s
  | .acChrR5S3 v => Sys2Proof.Machine.execAcChrR5S3 v s
  | .acChrR5S4 v => Sys2Proof.Machine.execAcChrR5S4 v s
  | .acChrR5S5 v => Sys2Proof.Machine.execAcChrR5S5 v s
  | .acChrR5S6 v => Sys2Proof.Machine.execAcChrR5S6 v s
  | .acChrR5S7 v => Sys2Proof.Machine.execAcChrR5S7 v s
  | .acChrR5S8 v => Sys2Proof.Machine.execAcChrR5S8 v s
  | .acChrR5S9 v => Sys2Proof.Machine.execAcChrR5S9 v s
  | .acChrR5S10 v => Sys2Proof.Machine.execAcChrR5S10 v s
  | .acChrR6S1 v => Sys2Proof.Machine.execAcChrR6S1 v s
  | .acChrR6S2 v => Sys2Proof.Machine.execAcChrR6S2 v s
  | .acChrR6S3 v => Sys2Proof.Machine.execAcChrR6S3 v s
  | .acChrR6S4 v => Sys2Proof.Machine.execAcChrR6S4 v s
  | .acChrR6S5 v => Sys2Proof.Machine.execAcChrR6S5 v s
  | .acChrR6S6 v => Sys2Proof.Machine.execAcChrR6S6 v s
  | .acChrR6S7 v => Sys2Proof.Machine.execAcChrR6S7 v s
  | .acChrR6S8 v => Sys2Proof.Machine.execAcChrR6S8 v s
  | .acChrR6S9 v => Sys2Proof.Machine.execAcChrR6S9 v s
  | .acChrR6S10 v => Sys2Proof.Machine.execAcChrR6S10 v s
  | .acChrR7S1 v => Sys2Proof.Machine.execAcChrR7S1 v s
  | .acChrR7S2 v => Sys2Proof.Machine.execAcChrR7S2 v s
  | .acChrR7S3 v => Sys2Proof.Machine.execAcChrR7S3 v s
  | .acChrR7S4 v => Sys2Proof.Machine.execAcChrR7S4 v s
  | .acChrR7S5 v => Sys2Proof.Machine.execAcChrR7S5 v s
  | .acChrR7S6 v => Sys2Proof.Machine.execAcChrR7S6 v s
  | .acChrR7S7 v => Sys2Proof.Machine.execAcChrR7S7 v s
  | .acChrR7S8 v => Sys2Proof.Machine.execAcChrR7S8 v s
  | .acChrR7S9 v => Sys2Proof.Machine.execAcChrR7S9 v s
  | .acChrR7S10 v => Sys2Proof.Machine.execAcChrR7S10 v s
  | .acChrR8S1 v => Sys2Proof.Machine.execAcChrR8S1 v s
  | .acChrR8S2 v => Sys2Proof.Machine.execAcChrR8S2 v s
  | .acChrR8S3 v => Sys2Proof.Machine.execAcChrR8S3 v s
  | .acChrR8S4 v => Sys2Proof.Machine.execAcChrR8S4 v s
  | .acChrR8S5 v => Sys2Proof.Machine.execAcChrR8S5 v s
  | .acChrR8S6 v => Sys2Proof.Machine.execAcChrR8S6 v s
  | .acChrR8S7 v => Sys2Proof.Machine.execAcChrR8S7 v s
  | .acChrR8S8 v => Sys2Proof.Machine.execAcChrR8S8 v s
  | .acChrR8S9 v => Sys2Proof.Machine.execAcChrR8S9 v s
  | .acChrR8S10 v => Sys2Proof.Machine.execAcChrR8S10 v s
  | .acChrR9S1 v => Sys2Proof.Machine.execAcChrR9S1 v s
  | .acChrR9S2 v => Sys2Proof.Machine.execAcChrR9S2 v s
  | .acChrR9S3 v => Sys2Proof.Machine.execAcChrR9S3 v s
  | .acChrR9S4 v => Sys2Proof.Machine.execAcChrR9S4 v s
  | .acChrR9S5 v => Sys2Proof.Machine.execAcChrR9S5 v s
  | .acChrR9S6 v => Sys2Proof.Machine.execAcChrR9S6 v s
  | .acChrR9S7 v => Sys2Proof.Machine.execAcChrR9S7 v s
  | .acChrR9S8 v => Sys2Proof.Machine.execAcChrR9S8 v s
  | .acChrR9S9 v => Sys2Proof.Machine.execAcChrR9S9 v s
  | .acChrR9S10 v => Sys2Proof.Machine.execAcChrR9S10 v s
  | .acChrR10S1 v => Sys2Proof.Machine.execAcChrR10S1 v s
  | .acChrR10S2 v => Sys2Proof.Machine.execAcChrR10S2 v s
  | .acChrR10S3 v => Sys2Proof.Machine.execAcChrR10S3 v s
  | .acChrR10S4 v => Sys2Proof.Machine.execAcChrR10S4 v s
  | .acChrR10S5 v => Sys2Proof.Machine.execAcChrR10S5 v s
  | .acChrR10S6 v => Sys2Proof.Machine.execAcChrR10S6 v s
  | .acChrR10S7 v => Sys2Proof.Machine.execAcChrR10S7 v s
  | .acChrR10S8 v => Sys2Proof.Machine.execAcChrR10S8 v s
  | .acChrR10S9 v => Sys2Proof.Machine.execAcChrR10S9 v s
  | .acChrR10S10 v => Sys2Proof.Machine.execAcChrR10S10 v s
  | .acChrR11S1 v => Sys2Proof.Machine.execAcChrR11S1 v s
  | .acChrR11S2 v => Sys2Proof.Machine.execAcChrR11S2 v s
  | .acChrR11S3 v => Sys2Proof.Machine.execAcChrR11S3 v s
  | .acChrR11S4 v => Sys2Proof.Machine.execAcChrR11S4 v s
  | .acChrR11S5 v => Sys2Proof.Machine.execAcChrR11S5 v s
  | .acChrR11S6 v => Sys2Proof.Machine.execAcChrR11S6 v s
  | .acChrR11S7 v => Sys2Proof.Machine.execAcChrR11S7 v s
  | .acChrR11S8 v => Sys2Proof.Machine.execAcChrR11S8 v s
  | .acChrR11S9 v => Sys2Proof.Machine.execAcChrR11S9 v s
  | .acChrR11S10 v => Sys2Proof.Machine.execAcChrR11S10 v s
  | .acChrR12S1 v => Sys2Proof.Machine.execAcChrR12S1 v s
  | .acChrR12S2 v => Sys2Proof.Machine.execAcChrR12S2 v s
  | .acChrR12S3 v => Sys2Proof.Machine.execAcChrR12S3 v s
  | .acChrR12S4 v => Sys2Proof.Machine.execAcChrR12S4 v s
  | .acChrR12S5 v => Sys2Proof.Machine.execAcChrR12S5 v s
  | .acChrR12S6 v => Sys2Proof.Machine.execAcChrR12S6 v s
  | .acChrR12S7 v => Sys2Proof.Machine.execAcChrR12S7 v s
  | .acChrR12S8 v => Sys2Proof.Machine.execAcChrR12S8 v s
  | .acChrR12S9 v => Sys2Proof.Machine.execAcChrR12S9 v s
  | .acChrR12S10 v => Sys2Proof.Machine.execAcChrR12S10 v s
  | .acChrR13S1 v => Sys2Proof.Machine.execAcChrR13S1 v s
  | .acChrR13S2 v => Sys2Proof.Machine.execAcChrR13S2 v s
  | .acChrR13S3 v => Sys2Proof.Machine.execAcChrR13S3 v s
  | .acChrR13S4 v => Sys2Proof.Machine.execAcChrR13S4 v s
  | .acChrR13S5 v => Sys2Proof.Machine.execAcChrR13S5 v s
  | .acChrR13S6 v => Sys2Proof.Machine.execAcChrR13S6 v s
  | .acChrR13S7 v => Sys2Proof.Machine.execAcChrR13S7 v s
  | .acChrR13S8 v => Sys2Proof.Machine.execAcChrR13S8 v s
  | .acChrR13S9 v => Sys2Proof.Machine.execAcChrR13S9 v s
  | .acChrR13S10 v => Sys2Proof.Machine.execAcChrR13S10 v s
  | .acChrR14S1 v => Sys2Proof.Machine.execAcChrR14S1 v s
  | .acChrR14S2 v => Sys2Proof.Machine.execAcChrR14S2 v s
  | .acChrR14S3 v => Sys2Proof.Machine.execAcChrR14S3 v s
  | .acChrR14S4 v => Sys2Proof.Machine.execAcChrR14S4 v s
  | .acChrR14S5 v => Sys2Proof.Machine.execAcChrR14S5 v s
  | .acChrR14S6 v => Sys2Proof.Machine.execAcChrR14S6 v s
  | .acChrR14S7 v => Sys2Proof.Machine.execAcChrR14S7 v s
  | .acChrR14S8 v => Sys2Proof.Machine.execAcChrR14S8 v s
  | .acChrR14S9 v => Sys2Proof.Machine.execAcChrR14S9 v s
  | .acChrR14S10 v => Sys2Proof.Machine.execAcChrR14S10 v s
  | .acChrZrl => Sys2Proof.Machine.execAcChrZrl s
  | .acChrR15S1 v => Sys2Proof.Machine.execAcChrR15S1 v s
  | .acChrR15S2 v => Sys2Proof.Machine.execAcChrR15S2 v s
  | .acChrR15S3 v => Sys2Proof.Machine.execAcChrR15S3 v s
  | .acChrR15S4 v => Sys2Proof.Machine.execAcChrR15S4 v s
  | .acChrR15S5 v => Sys2Proof.Machine.execAcChrR15S5 v s
  | .acChrR15S6 v => Sys2Proof.Machine.execAcChrR15S6 v s
  | .acChrR15S7 v => Sys2Proof.Machine.execAcChrR15S7 v s
  | .acChrR15S8 v => Sys2Proof.Machine.execAcChrR15S8 v s
  | .acChrR15S9 v => Sys2Proof.Machine.execAcChrR15S9 v s
  | .acChrR15S10 v => Sys2Proof.Machine.execAcChrR15S10 v s

end Sys2Proof.Machine
end

