-- ==== Sys2Proof/Machine/Rules.lean ====
section
/-! DEFINITION. The CORE as one function of its parameters (00_scope R10), its number system, and its architectural state: the rule
of every instruction, and what an instruction and a command word do (48_dispatcher R260). The machine's `exec` is this function
at the parameters its state carries and the exact numbers (a law); with `realSystem` it is the spec's reference, `NUM` = ℝ. -/

namespace Sys2Proof.Machine

/-- The rule of a symbol (45_huffman R211, R212; log 10). -/
def symbolRule {ν : Type} (p : Params) (y : Symbol) : CoreState ν → Effect ν :=
  match y.type with
  | .dc => ruleDcSymbol p y.layer y.size y.lit
  | .ac => ruleAcSymbol p y.layer y.run y.size y.lit

/-- The rule of a command; `none` for `CLR`, which is executed in every state, and for the symbols. -/
def commandRule? {ν : Type} (p : Params) (n : NumSystem ν) : Instr → Option (CoreState ν → Effect ν)
  | .nop => some fun s => .ok s
  | .cfgq q => some (ruleCfgq q)
  | .cfgg g => some (ruleCfgg g)
  | .ldx => some ruleLdx
  | .stx => some ruleStx
  | .fdct => some (ruleFdct n)
  | .idct => some (ruleIdct n)
  | .qnt l => some (ruleQnt p n l)
  | .dqt l => some (ruleDqt p n l)
  | .zz => some ruleZz
  | .izz => some ruleIzz
  | .dce l => some (ruleDce p l)
  | .dcd l => some (ruleDcd p l)
  | .rle => some ruleRle
  | .rld => some ruleRld
  | .hedc l => some (ruleHedc p l)
  | .heac l => some (ruleHeac p l)
  | .hddc l => some (ruleHddc p l)
  | .hdac l => some (ruleHdac p l)
  | .pack => some (rulePack p)
  | .slice => some (ruleSlice p)
  | .encblk l => some (ruleEncblk p n l)
  | .decblk l => some (ruleDecblk p n l)
  | _ => none

/-- What an instruction does to the architectural state; the last line is `CLR` (48_dispatcher R260, R263). -/
def coreExec {ν : Type} (p : Params) (n : NumSystem ν) (i : Instr) (s : CoreState ν) : CoreState ν :=
  match i.symbol?, commandRule? p n i with
  | some y, _ => commandStep (symbolRule p y) s
  | none, some rule => commandStep rule s
  | none, none => clearSession (countCommand s)

/-- The rule of a word that matches no row of 30_encoding R93: `E_ILLEGAL` with the word (60_exceptions R314). -/
def ruleReserved {ν : Type} (w : Word) (_ : CoreState ν) : Effect ν :=
  .error ⟨.illegal, w.toNat, 0⟩

/-- What a command word does to the architectural state (48_dispatcher R260). -/
def coreStep {ν : Type} (p : Params) (n : NumSystem ν) (w : Word) (s : CoreState ν) : CoreState ν :=
  match decodeWord w with
  | some i => coreExec p n i s
  | none => commandStep (ruleReserved w) s

end Sys2Proof.Machine
end

