-- ==== Sys2Proof/Machine/Fetch.lean ====
section
/-! DEFINITION. Taking the next command word (48_dispatcher R260) and placing one (log 9, log 13). -/

namespace Sys2Proof.Machine

/-- The oldest word the host has issued, taken off the command port; `none` while it has issued none (10_state R27,
70_reset_and_hazards R341). -/
def fetch (s : State) : Option (Word × State) :=
  match s.cmdIn with
  | [] => none
  | w :: rest => some (w, { s with cmdIn := rest })

/-- A word that matches no row of 30_encoding R93: counted, ignored while `FAULTED`, else `E_ILLEGAL` with the word
(48_dispatcher R260, 60_exceptions R314). -/
def reservedWord (w : Word) (s : State) : Result :=
  runCommand (ruleReserved w) s

/-- The word placed as the next one the CORE takes. -/
def placeWord (w : Word) (s : State) : State :=
  { s with cmdIn := w :: s.cmdIn }

/-- The command that decodes a symbol of a table: `HDDC L` or `HDAC L` (45_huffman R211, R212). -/
def symbolCommand (ty : ValType) (l : Layer) : Word :=
  match ty with
  | .dc => BitVec.ofNat 16 (0x2200 + l.code)
  | .ac => BitVec.ofNat 16 (0x2300 + l.code)

/-- The symbol's bits placed at the cursor of its segment, and after an AC symbol other than EOB the EOB that ends its
block, with the command that decodes them as the next word (log 13). -/
def placeSymbol (y : Symbol) (s : State) : State :=
  let k := segIx y.type y.layer
  let block := if y.type = .ac ∧ pairOf y ≠ eob then (⟨.ac, y.layer, 0, 0, 0⟩ : Symbol).bits s.params.hTables else []
  let seg := s.mem.seg[k].take s.mem.cur[k] ++ y.bits s.params.hTables ++ block
  placeWord (symbolCommand y.type y.layer) { s with mem := { s.mem with seg := s.mem.seg.set k seg } }

/-- The instruction of an `nbits`-bit row of the opcode table placed where the next step finds it. -/
def placeTableWord (nbits w : Nat) (s : State) : State :=
  if nbits = 16 ∧ (decodeWord (BitVec.ofNat 16 w)).isSome then placeWord (BitVec.ofNat 16 w) s
  else
    match exactSymbol s.params.hTables (binOf nbits w) with
    | some y => placeSymbol y s
    | none => placeWord (BitVec.ofNat 16 w) s

end Sys2Proof.Machine
end

