-- ==== Sys2Proof/Machine/Step.lean ====
section
/-! DEFINITION. One step of the CORE: take the next command word, decode it, run it (48_dispatcher R260). -/

namespace Sys2Proof.Machine

open Sys2Proof

/-- One step. While the host has issued no word the CORE is idle and nothing changes (70_reset_and_hazards R341). -/
def step (s : State) : Host.Outcome State Fault Refusal :=
  match fetch s with
  | none => .next s
  | some (w, t) =>
    match decodeWord w with
    | some i => exec i t
    | none => reservedWord w t

/-- `s` with the instruction of an `nbits`-bit row of the opcode table, bits `w`, as the next one `step` runs (log 13). -/
def State.withFetchWord (s : State) (nbits w : Nat) : State :=
  placeTableWord nbits w s

end Sys2Proof.Machine
end

