-- ==== Sys2Proof/Machine/HostPort.lean ====
section
/-! DEFINITION. What the host does between commands (00_scope R19, 20_memory R77): the four data ports, issuing a command
word, reading a CSR, what it does after a fault (70_reset_and_hazards R352); and the three pseudo-instructions (30_encoding
R97). None is a step of the CORE. -/

namespace Sys2Proof.Machine

/-- The host appends a block to `XIN` (10_state R41). -/
def hostPutBlock (b : Block NUM) (s : State) : State :=
  { s with xin := s.xin ++ [b] }

/-- The host removes the head of `XOUT` (10_state R41). -/
def hostTakeBlock (s : State) : Option (Block NUM × State) :=
  match s.xout with
  | [] => none
  | b :: rest => some (b, { s with xout := rest })

/-- The host appends a record to `BIN` (10_state R42). -/
def hostPutRecord (r : Record) (s : State) : State :=
  { s with bin := s.bin ++ [r] }

/-- The host removes the head of `BOUT` (10_state R42). -/
def hostTakeRecord (s : State) : Option (Record × State) :=
  match s.bout with
  | [] => none
  | r :: rest => some (r, { s with bout := rest })

/-- The host issues a command word (00_scope R19 (c); log 9). -/
def hostIssue (w : Word) (s : State) : State :=
  { s with cmdIn := s.cmdIn ++ [w] }

/-- The host reads the CSR of a number; `none` where there is none (10_state R30). A read has no effect on the state. CSR 15
while `VD = 0` is unspecified (R38): a free value (log 8). -/
def CoreState.csr {ν : Type} (s : CoreState ν) (number : Nat) : Option Int :=
  match number with
  | 0 => some s.quality
  | 1 => some s.ctrlWord.toNat
  | 2 => some s.statusWord.toNat
  | 3 => some s.errInfo
  | 4 => some (s.mem.len 0)
  | 5 => some (s.mem.len 1)
  | 6 => some (s.mem.len 2)
  | 7 => some (s.mem.len 3)
  | 8 => some s.remBits
  | 9 => some s.mem.cur[0]
  | 10 => some s.mem.cur[1]
  | 11 => some s.mem.cur[2]
  | 12 => some s.mem.cur[3]
  | 13 => some s.predLum
  | 14 => some s.predChr
  | 15 => some (if s.vd then s.diff else Config.unwrittenDiff s.cmdCnt)
  | 16 => some s.cmdCnt
  | _ => none

/-- The host throws away entry `k` of the blocks it has queued in `XIN` (70_reset_and_hazards R352). -/
def hostDropBlock (k : Nat) (s : State) : State :=
  { s with xin := s.xin.eraseIdx k }

/-- The host throws away entry `k` of the records it has queued in `BIN` (70_reset_and_hazards R352). -/
def hostDropRecord (k : Nat) (s : State) : State :=
  { s with bin := s.bin.eraseIdx k }

/-- The host takes entry `k` of `XOUT` and throws it away (70_reset_and_hazards R352). -/
def hostDropResult (k : Nat) (s : State) : State :=
  { s with xout := s.xout.eraseIdx k }

/-- The host throws away what belongs to the failed image, which is the oldest in every queue, since a session is one image
(70_reset_and_hazards R346, R352; that it is the heads is DEDUCED, log 12): so many blocks of `XIN`, records of `BIN`, and results of `XOUT`. -/
def hostDiscard (blocks records results : Nat) (s : State) : State :=
  { s with xin := s.xin.drop blocks, bin := s.bin.drop records, xout := s.xout.drop results }

/-- After a fault the host reads `STATUS` and `ERRINFO`, throws away what belongs to the failed image, and issues `CLR`
(70_reset_and_hazards R352). That `CLR` comes last is a DESIGN CHOICE (log 12). -/
def hostAfterFault (blocks records results : Nat) (s : State) : (Option Int × Option Int) × State :=
  ((s.csr 2, s.csr 3), hostIssue 0x0100#16 (hostDiscard blocks records results s))

/-- `BEGIN q, g`: `CLR; CFGQ q; CFGG g` (30_encoding R97). -/
def pseudoBegin (q : Nat) (g : Bool) : List Instr :=
  [.clr, .cfgq q, .cfgg g]

/-- `ENCBLKS L, n` (30_encoding R97). -/
def pseudoEncblks (l : Layer) (n : Nat) : List Instr :=
  List.replicate n (.encblk l)

/-- `DECBLKS L, n` (30_encoding R97). -/
def pseudoDecblks (l : Layer) (n : Nat) : List Instr :=
  List.replicate n (.decblk l)

end Sys2Proof.Machine
end

