-- ==== Sys2Proof/Machine/Reals.lean ====
section
/-! DEFINITION. The reference semantics of the transform and the quantizer, `NUM` = ℝ (40_transform R130), as the rules write
them, and the real number an exact number stands for. No step uses this file: the machine's own numbers are those of Num.lean. -/

namespace Sys2Proof.Machine

/-- `c(0) = 1/√2`, `c(u) = 1` for `u ≥ 1` (40_transform R120). -/
noncomputable def dctScale (u : Fin 8) : ℝ :=
  if u.val = 0 then 1 / Real.sqrt 2 else 1

/-- `cos((2i+1)·u·π/16)` (40_transform R120). -/
noncomputable def dctCos (i u : Fin 8) : ℝ :=
  Real.cos ((2 * (i.val : ℝ) + 1) * (u.val : ℝ) * Real.pi / 16)

/-- `fdct` on real blocks, the double sum (40_transform R122; log 15). -/
noncomputable def realFdct (x : Block ℝ) : Block ℝ :=
  blockOf fun u v =>
    1 / 4 * dctScale u * dctScale v * ∑ i : Fin 8, ∑ j : Fin 8, blockAt x i j * dctCos i u * dctCos j v

/-- `idct` on real blocks, the double sum (40_transform R123; log 15). -/
noncomputable def realIdct (y : Block ℝ) : Block ℝ :=
  blockOf fun i j =>
    1 / 4 * ∑ u : Fin 8, ∑ v : Fin 8, dctScale u * dctScale v * blockAt y u v * dctCos i u * dctCos j v

/-- `round(x)` of a real number, a tie by the rule (41_quantizer R143). -/
noncomputable def realRound (r : QRound) (x : ℝ) : Int :=
  let n := ⌊x⌋
  if x - n < 1 / 2 then n
  else if 1 / 2 < x - n then n + 1
  else
    match r with
    | .halfEven => if n % 2 = 0 then n else n + 1
    | .halfAway => if n < 0 then n else n + 1

/-- The default `NUM`: the real numbers (00_scope R10, 40_transform R130, 41_quantizer R144). -/
noncomputable def realSystem : NumSystem ℝ where
  fdct := realFdct
  idct := realIdct
  quantize r d x := realRound r (x / (d : ℝ))
  dequantize d n := (n : ℝ) * (d : ℝ)

/-- The real number a `NUM` stands for (log 1). -/
noncomputable def NUM.toReal (x : NUM) : ℝ :=
  x.c0 + x.c1 * (2 * Real.cos (1 * Real.pi / 16)) + x.c2 * (2 * Real.cos (2 * Real.pi / 16))
    + x.c3 * (2 * Real.cos (3 * Real.pi / 16)) + x.c4 * (2 * Real.cos (4 * Real.pi / 16))
    + x.c5 * (2 * Real.cos (5 * Real.pi / 16)) + x.c6 * (2 * Real.cos (6 * Real.pi / 16))
    + x.c7 * (2 * Real.cos (7 * Real.pi / 16))

end Sys2Proof.Machine
end

