-- ==== Sys2Proof/Safety.lean ====
section
/-! DEFINITION. The terms the claims are stated in: what a sound state is, the state a fault leaves, the spec's tables and loops
written out once more beside the machine's, and what an instruction may write. No step uses any of them. -/

namespace Sys2Proof.Machine

/-- The form of `RL` (10_state R25): at most 64 pairs, runs in `0..15`, EOB last and nowhere else, and the coefficients
before EOB at most 63 (44_rle_coder R183). -/
abbrev RlForm (l : List Pair) : Prop :=
  l.length ≤ 64 ∧ l.getLast? = some eob ∧ eob ∉ l.dropLast ∧ (∀ p ∈ l, p.run ≤ 15) ∧
    (l.dropLast.map fun p => p.run + 1).sum ≤ 63

/-- A record as `PACK` emits it (47_packer R243, R246): two or four lengths, none negative, `remaining_bits_length` in
`0..7`, and the header adding up to the bits of `data`. -/
abbrev Record.Sound (r : Record) : Prop :=
  (r.sliceLengths.length = 2 ∨ r.sliceLengths.length = 4) ∧ (∀ n ∈ r.sliceLengths, 0 ≤ n) ∧
    0 ≤ r.remainingBits ∧ r.remainingBits ≤ 7 ∧
    r.sliceLengths.sum + r.remainingBits = 8 * (r.data.length : Int)

/-- The fault record of a state: `ERR` is 0 exactly while not `FAULTED`, `ERRINFO` and `ERRSEG` are 0 then, and `ERRSEG` is 0
for every fault but the two decode faults (10_state R29, R33, R34; 60_exceptions R301). -/
abbrev State.FaultRecord (s : State) : Prop :=
  (s.faulted = true ↔ s.err ≠ .none) ∧ (s.err = .none → s.errInfo = 0) ∧
    (s.err ≠ .noMatch → s.err ≠ .underrun → s.errSeg = 0)

/-- Every integer register holds a number of `INTW` bits, and every segment fits its buffer (00_scope R10, 10_state R30; log
5). With the default parameters this says nothing. -/
abbrev State.WithinLimits (s : State) : Prop :=
  s.params.fitsAll s.qb.toList = true ∧ s.params.fitsAll s.zq.toList = true ∧ s.params.fits s.diff = true ∧
    s.params.fitsAll (s.rl.map fun p => p.value) = true ∧ s.params.fits s.predLum = true ∧
    s.params.fits s.predChr = true ∧ (∀ k : Fin 4, s.params.holds (s.mem.len k) = true)

/-- What every step keeps: valid parameters (00_scope R10), the cursors within their segments (R37), the range of `QUALITY`
(R31) and of `REMBITS` (R36), the fault record, the form of `RL` once written (R25), sound records in `BOUT` (R246), and
everything within the limits. -/
abbrev State.Inv (s : State) : Prop :=
  s.params.valid = true ∧ s.mem.wf = true ∧ s.quality ≤ 95 ∧ s.remBits ≤ 7 ∧ s.FaultRecord ∧
    (s.vr = true → RlForm s.rl) ∧ (∀ r ∈ s.bout, r.Sound) ∧ s.WithinLimits

/-- The state a fault leaves (60_exceptions R304): the counted state with the fault record written. -/
def State.faultedWith (s : State) (code : ErrCode) (info : Int) (seg : Fin 4) : State :=
  { s with cmdCnt := s.cmdCnt + 1, faulted := true, err := code, errInfo := info, errSeg := seg }

/-- The fault of a limit (log 5), taken: its code and its `ERRINFO` are free values. -/
def State.limited (s : State) (c : Limit) : State :=
  s.faultedWith (errOfIndex (Config.limitCode c)) (Config.limitInfo c (s.cmdCnt + 1)) 0

/-- The state with `PRED[L]` as given (10_state R26). -/
def State.withPred (s : State) (l : Layer) (v : Int) : State :=
  s.over (setPred l v)

/-- Not `FAULTED`, and the layer is not `CHR` while `GREY = 1` (10_state R32, 48_dispatcher R260). -/
abbrev State.Accepts (s : State) (l : Layer) : Prop :=
  s.faulted = false ∧ ¬(l = .chr ∧ s.grey = true)

/-- A list of instructions, one after another; none of them is a step more than `exec` (48_dispatcher R272). -/
def execList : List Instr → State → Result
  | [], s => .next s
  | i :: is, s =>
    match exec i s with
    | .next t => execList is t
    | .fault r => .fault r
    | .refused r => .refused r

/-! The encodings, as 30_encoding R93 tabulates them. -/

/-- One row of the opcode map: a word `w` is the command exactly when `w AND mask = match` (30_encoding R93), and then it is
`build w` (30_encoding R92). -/
structure CommandRow where
  pattern : Word
  mask    : Word
  build   : Word → Instr

/-- `L = w[0]` (30_encoding R92). -/
def layerBit (w : Word) : Layer :=
  if w.getLsbD 0 then .chr else .lum

/-- The 24 rows of 30_encoding R93. -/
def commandRows : List CommandRow :=
  [⟨0x0000, 0xFFFF, fun _ => .nop⟩,
   ⟨0x0100, 0xFFFF, fun _ => .clr⟩,
   ⟨0x0200, 0xFF80, fun w => .cfgq (w &&& 0x7F#16).toNat⟩,
   ⟨0x0300, 0xFFFE, fun w => .cfgg (w.getLsbD 0)⟩,
   ⟨0x0800, 0xFFFF, fun _ => .ldx⟩,
   ⟨0x0900, 0xFFFF, fun _ => .stx⟩,
   ⟨0x1000, 0xFFFF, fun _ => .fdct⟩,
   ⟨0x1100, 0xFFFF, fun _ => .idct⟩] ++
  [⟨0x1200, 0xFFFE, fun w => .qnt (layerBit w)⟩,
   ⟨0x1300, 0xFFFE, fun w => .dqt (layerBit w)⟩,
   ⟨0x1400, 0xFFFF, fun _ => .zz⟩,
   ⟨0x1500, 0xFFFF, fun _ => .izz⟩,
   ⟨0x1800, 0xFFFE, fun w => .dce (layerBit w)⟩,
   ⟨0x1900, 0xFFFE, fun w => .dcd (layerBit w)⟩,
   ⟨0x1A00, 0xFFFF, fun _ => .rle⟩,
   ⟨0x1B00, 0xFFFF, fun _ => .rld⟩] ++
  [⟨0x2000, 0xFFFE, fun w => .hedc (layerBit w)⟩,
   ⟨0x2100, 0xFFFE, fun w => .heac (layerBit w)⟩,
   ⟨0x2200, 0xFFFE, fun w => .hddc (layerBit w)⟩,
   ⟨0x2300, 0xFFFE, fun w => .hdac (layerBit w)⟩,
   ⟨0x2800, 0xFFFF, fun _ => .pack⟩,
   ⟨0x2900, 0xFFFF, fun _ => .slice⟩,
   ⟨0x3000, 0xFFFE, fun w => .encblk (layerBit w)⟩,
   ⟨0x3100, 0xFFFE, fun w => .decblk (layerBit w)⟩]

/-- The length of the all-ones string no codeword of a table begins (30_encoding R103). -/
def unusedOnes : ValType → Layer → Nat
  | .dc, .lum => 9
  | .dc, .chr => 11
  | .ac, _ => 16

/-! The coefficient coders, as the rules write them. -/

/-- The coefficients a list of pairs stands for: `r + 1` each, 16 for ZRL (45_huffman R212). -/
def coeffCount (ps : List Pair) : Nat :=
  (ps.map fun p => p.run + 1).sum

/-- `run` zeros and then `value`, for each pair (44_rle_coder R183). -/
def expansion (ps : List Pair) : List Int :=
  ps.flatMap fun p => List.replicate p.run 0 ++ [p.value]

/-- `ac[0..last]`: the coefficients up to the last that is not zero (44_rle_coder R181). -/
def upToLast (ac : List Int) : List Int :=
  (ac.reverse.dropWhile fun v => v == 0).reverse

/-- One turn of the loop of `RLE` on `(run, out)` (44_rle_coder R181). -/
def rleTurn (st : Nat × List Pair) (v : Int) : Nat × List Pair :=
  if v = 0 then (st.1 + 1, st.2)
  else (0, st.2 ++ List.replicate (st.1 / 16) zrl ++ [⟨st.1 % 16, v⟩])

/-- The loop of `RLE` over `ac[0..last]`, then EOB (44_rle_coder R181). -/
def rleByRule (ac : List Int) : List Pair :=
  ((upToLast ac).foldl rleTurn (0, [])).2 ++ [eob]

/-- The `DIFF` values of `DCE L` issued for blocks with the given DC values, in order (43_dc_coder R172). -/
def dceOver (l : Layer) : State → List Int → List Int
  | _, [] => []
  | s, v :: vs =>
    match exec (.dce l) (s.over (writeZq0 v)) with
    | .next t => t.diff :: dceOver l t vs
    | _ => []

/-- The `ZQ[0]` values of `DCD L` issued for the given differences, in order (43_dc_coder R173). -/
def dcdOver (l : Layer) : State → List Int → List Int
  | _, [] => []
  | s, d :: ds =>
    match exec (.dcd l) (s.over (writeDiff d)) with
    | .next t => t.zq[0] :: dcdOver l t ds
    | _ => []

/-! What an instruction may write, as 10_state R47 tabulates it. -/

/-- The pieces of the state an instruction may write: the columns of 10_state R47, each data register with its valid
flag. -/
inductive Piece where
  | xb
  | qb
  | zq0
  | zqAc
  | diff
  | rl
  | pred (l : Layer)
  | seg (k : Fin 4)
  | cur (k : Fin 4)
  | quality
  | grey
  | remBits
  | xin
  | xout
  | bin
  | bout
  deriving DecidableEq, Repr

/-- The piece is the same in both states. -/
def Piece.Same (p : Piece) (s t : State) : Prop :=
  match p with
  | .xb => t.xb = s.xb ∧ t.vx = s.vx
  | .qb => t.qb = s.qb ∧ t.vq = s.vq
  | .zq0 => t.zq[0] = s.zq[0] ∧ t.vz0 = s.vz0
  | .zqAc => (∀ k : Fin 64, k ≠ 0 → t.zq[k] = s.zq[k]) ∧ t.vza = s.vza
  | .diff => t.diff = s.diff ∧ t.vd = s.vd
  | .rl => t.rl = s.rl ∧ t.vr = s.vr
  | .pred l => t.predOf l = s.predOf l
  | .seg k => t.mem.seg[k] = s.mem.seg[k]
  | .cur k => t.mem.cur[k] = s.mem.cur[k]
  | .quality => t.quality = s.quality
  | .grey => t.grey = s.grey
  | .remBits => t.remBits = s.remBits
  | .xin => t.xin = s.xin
  | .xout => t.xout = s.xout
  | .bin => t.bin = s.bin
  | .bout => t.bout = s.bout

/-- All four segments and cursors. -/
def Piece.memory : List Piece :=
  [.seg 0, .seg 1, .seg 2, .seg 3, .cur 0, .cur 1, .cur 2, .cur 3]

/-- The pieces a command may write (10_state R47); a symbol is a row of the table by the command it belongs to
(30_encoding R106). -/
def writesOf (i : Instr) : List Piece :=
  match i.symbol? with
  | some y =>
    match y.type with
    | .dc => [.diff, .cur (segIx .dc y.layer)]
    | .ac => [.rl, .cur (segIx .ac y.layer)]
  | none =>
    match i with
    | .clr => [.xb, .qb, .zq0, .zqAc, .diff, .rl, .pred .lum, .pred .chr, .quality, .grey, .remBits] ++ Piece.memory
    | .cfgq _ => [.quality]
    | .cfgg _ => [.grey]
    | .ldx => [.xin, .xb]
    | .stx => [.xout]
    | .fdct => [.xb]
    | .idct => [.xb]
    | .qnt _ => [.qb]
    | .dqt _ => [.xb]
    | .zz => [.zq0, .zqAc]
    | .izz => [.qb]
    | .dce l => [.diff, .pred l]
    | .dcd l => [.zq0, .pred l]
    | .rle => [.rl]
    | .rld => [.zqAc]
    | .hedc l => [.seg (segIx .dc l)]
    | .heac l => [.seg (segIx .ac l)]
    | .hddc l => [.diff, .cur (segIx .dc l)]
    | .hdac l => [.rl, .cur (segIx .ac l)]
    | .pack => [.bout, .remBits]
    | .slice => [.bin, .remBits] ++ Piece.memory
    | .encblk l => [.xin, .xb, .qb, .zq0, .zqAc, .diff, .rl, .pred l, .seg (segIx .dc l), .seg (segIx .ac l)]
    | .decblk l => [.diff, .pred l, .rl, .zq0, .zqAc, .qb, .xb, .xout, .cur (segIx .dc l), .cur (segIx .ac l)]
    | _ => []

/-- Two states that differ at most in the contents of data registers that are not valid (10_state R28, R46). -/
abbrev State.AgreeOnValid (s t : State) : Prop :=
  t = { s with xb := t.xb, qb := t.qb, zq := t.zq, diff := t.diff, rl := t.rl } ∧
    (s.vx = true → t.xb = s.xb) ∧ (s.vq = true → t.qb = s.qb) ∧ (s.vz0 = true → t.zq[0] = s.zq[0]) ∧
    (s.vza = true → ∀ k : Fin 64, k ≠ 0 → t.zq[k] = s.zq[k]) ∧ (s.vd = true → t.diff = s.diff) ∧
    (s.vr = true → t.rl = s.rl)

end Sys2Proof.Machine
end

