-- ==== Sys2Proof/Certificates/Slice0/Obligations.lean ====
section
/-! DEFINITION. The statements for the provers. Each docstring names the rules of spec/ the statement formalises, and the log
entry where it rests on a choice of the model. -/

section

open Sys2Proof Sys2Proof.Machine

/-! The command stream: fetching, decoding, encoding. -/

/-- 48_dispatcher R260: when the next word on the command port decodes to an instruction, `step` is that instruction's meaning
on the state with the word taken. The port is the model's own (log 9). -/
def Obligations.StepRunsDecodedCommand : Prop :=
  ∀ (s : State) (w : Word) (rest : List Word) (i : Instr), s.cmdIn = w :: rest → decodeWord w = some i →
    step s = exec i { s with cmdIn := rest }

/-- 48_dispatcher R260, 60_exceptions R305, R314: a reserved word raises `E_ILLEGAL` with the word, and is ignored while
`FAULTED`; 70_reset_and_hazards R341: with no word on the port nothing happens (log 9). -/
def Obligations.StepWithoutCommand : Prop :=
  (∀ (s : State) (w : Word) (rest : List Word), s.cmdIn = w :: rest → decodeWord w = none → s.faulted = false →
    step s = .next (({ s with cmdIn := rest } : State).faultedWith .illegal w.toNat 0)) ∧
  (∀ (s : State) (w : Word) (rest : List Word), s.cmdIn = w :: rest → decodeWord w = none → s.faulted = true →
    step s = .next { s with cmdIn := rest, cmdCnt := s.cmdCnt + 1 }) ∧
  (∀ s : State, s.cmdIn = [] → step s = .next s)

/-- A few words and bit strings of every family, written out from 30_encoding R93 and 46_huffman_tables R232 to R235 (whose
entries are general knowledge: log 4). -/
def Obligations.SampleDecodings : Prop :=
  decodeWord 0b0000000000000000#16 = some .nop ∧ decodeWord 0b0000001000110010#16 = some (.cfgq 50) ∧
  decodeWord 0b0000001100000001#16 = some (.cfgg true) ∧ decodeWord 0b0001001000000001#16 = some (.qnt .chr) ∧
  decodeWord 0b0010001100000000#16 = some (.hdac .lum) ∧ decodeWord 0b0011000100000001#16 = some (.decblk .chr) ∧
  decodeWord 0b0000001010000000#16 = none ∧ decodeWord 0b0000010000000000#16 = none ∧
  decodeSymbol HTables.default .dc .lum [true, true, false, true, false, false, false, false] = some (.dcLumS5 16, 8) ∧
  decodeSymbol HTables.default .dc .chr [true, false, false, false] = some (.dcChrS2 0, 4) ∧
  decodeSymbol HTables.default .ac .lum [true, true, true, true, false, true, true, false] = some (.acLumR6S1 0, 8) ∧
  decodeSymbol HTables.default .ac .chr [false, true, true] = some (.acChrR0S1 1, 3)

/-- 30_encoding R92, R93, R94: the decoder is the opcode map, row by row `w AND mask = match`, and every word that matches no
row is reserved. -/
def Obligations.DecoderIsOpcodeMap : Prop :=
  ∀ w : Word, decodeWord w = (commandRows.find? fun r => w &&& r.mask == r.pattern).map fun r => r.build w

/-- 30_encoding R93: decode and encode agree for the 24 commands, in both directions. -/
def Obligations.CommandDecodeEncode : Prop :=
  (∀ (i : Instr) (w : Word), i.wellFormed = true → i.word? = some w → decodeWord w = some i) ∧
  (∀ (w : Word) (i : Instr), decodeWord w = some i → i.wellFormed = true ∧ i.word? = some w)

/-- 30_encoding R98, R99; 45_huffman R206, R207, R213; 46_huffman_tables R237: in all tables with the properties of 45_huffman
R192, a symbol's bits decode to it, whatever follows them, for all 348 symbols and every literal. The symbols as instructions
are log 10. -/
def Obligations.SymbolDecodeEncode : Prop :=
  ∀ (h : HTables) (i : Instr) (y : Symbol) (tail : Bits), h.valid = true → i.symbol? = some y →
    readSymbol h y.type y.layer (encode h i ++ tail) = .ok (y, (encode h i).length) ∧
      decodeSymbol h y.type y.layer (encode h i ++ tail) = some (i, (encode h i).length)

/-- 30_encoding R102; 45_huffman R206, R207; 46_huffman_tables R237: in all tables with the properties of 45_huffman R192,
whatever symbol the decoder reads, its encoding stands at the position and its length is that encoding's. -/
def Obligations.SymbolReadStandsThere : Prop :=
  ∀ (h : HTables) (ty : ValType) (l : Layer) (rest : Bits) (y : Symbol) (n : Nat), h.valid = true →
    readSymbol h ty l rest = .ok (y, n) →
    ∃ i : Instr, i.symbol? = some y ∧ y.type = ty ∧ y.layer = l ∧ n = (encode h i).length ∧ encode h i <+: rest

/-- 60_exceptions R308, R309; 30_encoding R103: no codeword matches exactly when the bits begin with the table's one unused
string of ones, and the bits run out exactly when what is left is the proper beginning of a symbol. It rests on the default
tables (log 4). -/
def Obligations.WhyNoSymbolIsRead : Prop :=
  ∀ (ty : ValType) (l : Layer) (rest : Bits),
    (readSymbol HTables.default ty l rest = .error .noMatch ↔ List.replicate (unusedOnes ty l) true <+: rest) ∧
    (readSymbol HTables.default ty l rest = .error .underrun ↔
      ∃ (i : Instr) (y : Symbol), i.symbol? = some y ∧ y.type = ty ∧ y.layer = l ∧ rest <+: encode HTables.default i ∧
        rest ≠ encode HTables.default i)

/-- 45_huffman R192: the four default tables (their entries: log 4) have exactly the keys of R190, distinct codewords, and are
prefix-free. -/
def Obligations.TablesArePrefixCodes : Prop :=
  ∀ (ty : ValType) (l : Layer), (HTables.default.get ty l).valid ty = true

/-! Reset, invariants, and rules of the whole machine. -/

/-- 10_state R46: the values after reset, for everything the rule gives a value; 00_scope R10: the parameters are the defaults
(logs 2 to 5, 22, 23). -/
def Obligations.ResetValues : Prop :=
  let s := State.reset
  s.vx = false ∧ s.vq = false ∧ s.vz0 = false ∧ s.vza = false ∧ s.vd = false ∧ s.vr = false ∧ s.faulted = false ∧
  s.quality = 0 ∧ s.ctrlWord = 0#16 ∧ s.statusWord = 0#16 ∧ s.errInfo = 0 ∧
  (∀ k : Fin 4, s.mem.len k = 0 ∧ s.mem.cur[k] = 0 ∧ s.mem.seg[k] = []) ∧ s.remBits = 0 ∧
  (∀ l : Layer, s.predOf l = 0) ∧ s.cmdCnt = 0 ∧ s.xin = [] ∧ s.xout = [] ∧ s.bin = [] ∧ s.bout = [] ∧
  s.params = Params.default

/-- The invariant holds after reset. -/
def Obligations.ResetMeetsInvariant : Prop :=
  State.reset.Inv

/-- 10_state R25, R29, R31, R33, R36, R37; 47_packer R245; 00_scope R10: every step keeps the invariant, from every state that has it. -/
def Obligations.StepKeepsInvariant : Prop :=
  ∀ s t : State, s.Inv → step s = .next t → t.Inv

/-- The same for every instruction, the symbols among them. -/
def Obligations.ExecKeepsInvariant : Prop :=
  ∀ (i : Instr) (s t : State), s.Inv → exec i s = .next t → t.Inv

/-- 00_scope R18, 10_state R27, R43, 60_exceptions R316: every instruction answers a next state in every state, has counted, and
has left the parameters alone; every step answers a next state. The two clauses about the command port, that an instruction
leaves it alone and that a step with no word on it answers too, are the model's choice (log 9); the parameters stand in the
state by log 22. -/
def Obligations.EveryCommandAnswers : Prop :=
  (∀ (i : Instr) (s : State), ∃ t, exec i s = .next t ∧ t.cmdCnt = s.cmdCnt + 1 ∧ t.params = s.params ∧
    t.cmdIn = s.cmdIn) ∧
  (∀ s : State, ∃ t, step s = .next t)

/-- 60_exceptions R304: an instruction that faults leaves the state it found, counted, with the fault record written:
the code, the datum, the segment for the two decode faults and 0 for every other. -/
def Obligations.FaultDiscardsEffects : Prop :=
  ∀ (i : Instr) (s t : State), s.faulted = false → exec i s = .next t → t.faulted = true →
    ∃ (c : ErrCode) (info : Int) (k : Fin 4), c ≠ .none ∧ (c ≠ .noMatch → c ≠ .underrun → k = 0) ∧
      t = s.faultedWith c info k

/-- 60_exceptions R305: while `FAULTED` every command but `CLR` changes nothing except `CMDCNT`. -/
def Obligations.FaultedIgnoresCommands : Prop :=
  ∀ (i : Instr) (s : State), s.faulted = true → i ≠ .clr → exec i s = .next { s with cmdCnt := s.cmdCnt + 1 }

/-- 10_state R28, R29: no instruction but `CLR` clears a valid flag or `FAULTED`. -/
def Obligations.OnlyClrClearsFlags : Prop :=
  ∀ (i : Instr) (s t : State), i ≠ .clr → exec i s = .next t →
    (s.vx = true → t.vx = true) ∧ (s.vq = true → t.vq = true) ∧ (s.vz0 = true → t.vz0 = true) ∧
    (s.vza = true → t.vza = true) ∧ (s.vd = true → t.vd = true) ∧ (s.vr = true → t.vr = true) ∧
    (s.faulted = true → t.faulted = true)

/-- 10_state R47, 20_memory R61, R75: every instruction leaves alone every piece of the state its row of the matrix does not
name, with its valid flag; in particular the other layer's predictor, segments and cursors. -/
def Obligations.WritesOnlyItsRow : Prop :=
  ∀ (i : Instr) (s t : State) (p : Piece), exec i s = .next t → p ∉ writesOf i → p.Same s t

/-- 10_state R40, 20_memory R70: no instruction but `CLR` and `SLICE` changes a bit of a segment that is there: every bit below
the old length of its segment reads as before. -/
def Obligations.SegmentBitsStay : Prop :=
  ∀ (i : Instr) (s t : State) (k : Fin 4) (p : Nat), i ≠ .clr → i ≠ .slice → exec i s = .next t → p < s.mem.len k →
    t.mem.bit? k p = s.mem.bit? k p

/-- 10_state R28, R46: no instruction reads a data register that is not valid: states that differ in the contents of such
registers alone go to states that do, and complete or fault alike. -/
def Obligations.UnwrittenRegistersUnread : Prop :=
  ∀ (i : Instr) (s t : State), s.AgreeOnValid t →
    ∃ s' t', exec i s = .next s' ∧ exec i t = .next t' ∧ s'.AgreeOnValid t'

/-- 10_state R32: while `GREY = 1` every command with layer `CHR` faults with `E_SEQ` and its command word. For a symbol of a
chrominance table, whose command word is that of `HDDC CHR` or `HDAC CHR`, it is the model's choice (log 10, from 30_encoding
R106). -/
def Obligations.GreyBlocksChrominance : Prop :=
  ∀ s : State, s.faulted = false → s.grey = true →
    (∀ c ∈ [(Instr.qnt .chr, 0x1201), (.dqt .chr, 0x1301), (.dce .chr, 0x1801), (.dcd .chr, 0x1901), (.hedc .chr, 0x2001),
        (.heac .chr, 0x2101), (.hddc .chr, 0x2201), (.hdac .chr, 0x2301), (.encblk .chr, 0x3001), (.decblk .chr, 0x3101)],
      exec c.1 s = .next (s.faultedWith .seq c.2 0)) ∧
    (∀ (i : Instr) (y : Symbol), i.symbol? = some y → y.layer = .chr →
      exec i s = .next (s.faultedWith .seq (if y.type = .dc then 0x2201 else 0x2301) 0))

/-- 10_state R33, R39; 60_exceptions R301: the fields of `STATUS`. 10_state R30, R32, R38, R39: what the host reads under each CSR
number, and that there is none above 16. Of CSR 15 while `VD = 0` nothing is said but that a read answers (log 8). -/
def Obligations.StatusFields : Prop :=
  ∀ s : State,
    s.statusWord.extractLsb' 0 4 = BitVec.ofNat 4 s.err.code ∧ s.statusWord.getLsbD 4 = s.faulted ∧
    s.statusWord.extractLsb' 5 2 = BitVec.ofNat 2 s.errSeg.val ∧ s.statusWord.getLsbD 7 = false ∧
    s.statusWord.getLsbD 8 = s.vx ∧ s.statusWord.getLsbD 9 = s.vq ∧ s.statusWord.getLsbD 10 = s.vz0 ∧
    s.statusWord.getLsbD 11 = s.vza ∧ s.statusWord.getLsbD 12 = s.vd ∧ s.statusWord.getLsbD 13 = s.vr ∧
    s.statusWord.getLsbD 14 = false ∧ s.statusWord.getLsbD 15 = false ∧
    s.csr 0 = some (s.quality : Int) ∧ s.csr 1 = some (if s.grey then 1 else 0) ∧
    s.csr 2 = some (s.statusWord.toNat : Int) ∧ s.csr 3 = some s.errInfo ∧
    (∀ k : Fin 4, s.csr (4 + k.val) = some (s.mem.len k : Int)) ∧ s.csr 8 = some (s.remBits : Int) ∧
    (∀ k : Fin 4, s.csr (9 + k.val) = some (s.mem.cur[k] : Int)) ∧
    s.csr 13 = some (s.predOf .lum) ∧ s.csr 14 = some (s.predOf .chr) ∧
    (s.vd = true → s.csr 15 = some s.diff) ∧ (s.vd = false → (s.csr 15).isSome = true) ∧
    s.csr 16 = some (s.cmdCnt : Int) ∧ (∀ n : Nat, 16 < n → s.csr n = none)

/-! Housekeeping and ports. -/

/-- 48_dispatcher R262. -/
def Obligations.NopOnlyCounts : Prop :=
  ∀ s : State, exec .nop s = .next { s with cmdCnt := s.cmdCnt + 1 }

/-- 48_dispatcher R263: in every state, also while `FAULTED`, `CLR` leaves the reset state but for `CMDCNT`, the four port
queues and the (unreadable) contents of the data registers, of which nothing is said here (log 7). The second clause, the step
after the host's part after a fault (70_reset_and_hazards R352), is the model's choice (log 12): that the host throws away
entries at the heads of `XIN`, `BIN` and `XOUT` is DEDUCED, that it puts `CLR` on the port last a DESIGN CHOICE. That the command
port keeps its words is the model's choice too (log 9); that the parameters stand in the state is log 22. -/
def Obligations.ClrStartsSession : Prop :=
  (∀ s : State, ∃ t, exec .clr s = .next t ∧
    t = { State.reset with
          xb := t.xb, qb := t.qb, zq := t.zq, diff := t.diff, rl := t.rl, cmdCnt := s.cmdCnt + 1, xin := s.xin,
          xout := s.xout, bin := s.bin, bout := s.bout, params := s.params, cmdIn := s.cmdIn }) ∧
  (∀ (s : State) (blocks records results : Nat), s.cmdIn = [] →
    ∃ t, step (hostAfterFault blocks records results s).2 = .next t ∧
      t = { State.reset with
            xb := t.xb, qb := t.qb, zq := t.zq, diff := t.diff, rl := t.rl, cmdCnt := s.cmdCnt + 1,
            xin := s.xin.drop blocks, xout := s.xout.drop results, bin := s.bin.drop records, bout := s.bout,
            params := s.params })

/-- 48_dispatcher R264, R265. -/
def Obligations.ConfigurationCommands : Prop :=
  (∀ (s : State) (q : Nat), s.faulted = false → 1 ≤ q → q ≤ 95 →
    exec (.cfgq q) s = .next { s with quality := q, cmdCnt := s.cmdCnt + 1 }) ∧
  (∀ (s : State) (q : Nat), s.faulted = false → (q = 0 ∨ 96 ≤ q) →
    exec (.cfgq q) s = .next (s.faultedWith .param q 0)) ∧
  (∀ (s : State) (g : Bool), s.faulted = false →
    exec (.cfgg g) s = .next { s with grey := g, cmdCnt := s.cmdCnt + 1 })

/-- 48_dispatcher R266, R267. -/
def Obligations.PortCommands : Prop :=
  (∀ (s : State) (b : Block NUM) (rest : List (Block NUM)), s.faulted = false → s.xin = b :: rest →
    exec .ldx s = .next { s with xb := b, vx := true, xin := rest, cmdCnt := s.cmdCnt + 1 }) ∧
  (∀ s : State, s.faulted = false → s.xin = [] → exec .ldx s = .next (s.faultedWith .seq 0x0800 0)) ∧
  (∀ s : State, s.faulted = false → s.vx = true →
    exec .stx s = .next { s with xout := s.xout ++ [s.xb], cmdCnt := s.cmdCnt + 1 }) ∧
  (∀ s : State, s.faulted = false → s.vx = false → exec .stx s = .next (s.faultedWith .seq 0x0900 0))

/-! The transform. -/

/-- 40_transform R124, R125. -/
def Obligations.TransformCommands : Prop :=
  (∀ s : State, s.faulted = false → s.vx = true →
    exec .fdct s = .next { s with xb := fdct s.xb, cmdCnt := s.cmdCnt + 1 }) ∧
  (∀ s : State, s.faulted = false → s.vx = false → exec .fdct s = .next (s.faultedWith .seq 0x1000 0)) ∧
  (∀ s : State, s.faulted = false → s.vx = true →
    exec .idct s = .next { s with xb := idct s.xb, cmdCnt := s.cmdCnt + 1 }) ∧
  (∀ s : State, s.faulted = false → s.vx = false → exec .idct s = .next (s.faultedWith .seq 0x1100 0))

/-- 40_transform R120, R122, R123 (general knowledge there: log 15): on the real numbers the blocks stand for (log 1), `fdct`
and `idct` are the rules' double sums. -/
def Obligations.TransformsAreTheRealSums : Prop :=
  (∀ (x : Block NUM) (u v : Fin 8), (blockAt (fdct x) u v).toReal =
    1 / 4 * dctScale u * dctScale v * ∑ i : Fin 8, ∑ j : Fin 8, (blockAt x i j).toReal * dctCos i u * dctCos j v) ∧
  (∀ (y : Block NUM) (i j : Fin 8), (blockAt (idct y) i j).toReal =
    1 / 4 * ∑ u : Fin 8, ∑ v : Fin 8, dctScale u * dctScale v * (blockAt y u v).toReal * dctCos i u * dctCos j v)

/-- 40_transform R127, on the exact numbers of log 1. -/
def Obligations.TransformsAreInverse : Prop :=
  ∀ x : Block NUM, idct (fdct x) = x ∧ fdct (idct x) = x

/-! The quantizer. -/

/-- 41_quantizer R145, on the exact numbers of log 1, for every `QROUND` and `QTABLE`. What does not fit `INTW` is the subject of
LimitFaults. -/
def Obligations.QntCommand : Prop :=
  (∀ (s : State) (l : Layer), s.Accepts l → s.quality ≠ 0 → s.vx = true →
    let q : Block Int := blockOf fun i j =>
      (NUM.scale (1 / scaleAt s.params.qTables l s.quality (raster i j)) (blockAt s.xb i j)).round s.params.qRound
    s.params.fitsAll q.toList = true →
    exec (.qnt l) s = .next { s with qb := q, vq := true, cmdCnt := s.cmdCnt + 1 }) ∧
  (∀ (s : State) (l : Layer), s.faulted = false → (¬s.Accepts l ∨ s.quality = 0 ∨ s.vx = false) →
    exec (.qnt l) s = .next (s.faultedWith .seq (0x1200 + l.code : Nat) 0))

/-- 41_quantizer R146, with the exact numbers of log 1, for every `QTABLE`. -/
def Obligations.DqtCommand : Prop :=
  (∀ (s : State) (l : Layer), s.Accepts l → s.quality ≠ 0 → s.vq = true →
    exec (.dqt l) s = .next { s with
      xb := blockOf fun i j =>
        NUM.ofRat (((blockAt s.qb i j : Int) : ℚ) * scaleAt s.params.qTables l s.quality (raster i j))
      vx := true, cmdCnt := s.cmdCnt + 1 }) ∧
  (∀ (s : State) (l : Layer), s.faulted = false → (¬s.Accepts l ∨ s.quality = 0 ∨ s.vq = false) →
    exec (.dqt l) s = .next (s.faultedWith .seq (0x1300 + l.code : Nat) 0))

/-- 41_quantizer R143, on the exact numbers of log 1: `round` is the nearest integer of the real number, a tie by the rule, for both rules. -/
def Obligations.RoundIsNearestInteger : Prop :=
  ∀ (r : QRound) (x : NUM), |x.toReal - (x.round r : ℝ)| ≤ 1 / 2 ∧
    (|x.toReal - (x.round r : ℝ)| = 1 / 2 →
      match r with
      | .halfEven => Even (x.round r)
      | .halfAway => |x.toReal| < |(x.round r : ℝ)|)

/-- 41_quantizer R140, R141, R142, R144: the divisor is `QTABLE · factor / 100`, positive for every table of positive integers,
and dividing by it and multiplying by it are the real operations. -/
def Obligations.ScaledTableIsPositive : Prop :=
  ∀ (t : QTables) (l : Layer) (q : Nat) (k : Fin 64), t.valid = true → 1 ≤ q → q ≤ 95 →
    0 < scaleAt t l q k ∧
    scaleAt t l q k = (t.at l k : ℚ) * (if q < 50 then 5000 / (q : ℚ) else 200 - 2 * (q : ℚ)) / 100 ∧
    (∀ x : NUM, (NUM.scale (1 / scaleAt t l q k) x).toReal = x.toReal / (scaleAt t l q k : ℝ)) ∧
    (∀ n : Int, (NUM.ofRat ((n : ℚ) * scaleAt t l q k)).toReal = (n : ℝ) * (scaleAt t l q k : ℝ))

/-- 41_quantizer R149: quantizing what was dequantized gives every integer block back, under both tie rules and for every table
of positive integers. -/
def Obligations.QuantizeUndoesDequantize : Prop :=
  ∀ (p : Params) (l : Layer) (q : Nat) (b : Block Int), p.qTables.valid = true → 1 ≤ q → q ≤ 95 →
    quantize p exactSystem l q (dequantize p exactSystem l q b) = b

/-- 40_transform R130, 00_scope R10: the machine on the exact numbers is the machine on the real numbers. Every instruction, from
every state, does to the real numbers its blocks stand for (log 1) what the reference `NUM` = ℝ does to them, and to everything
else the same: the reals' double sums (log 15) and their rounding. -/
def Obligations.ExactMachineIsRealMachine : Prop :=
  ∀ (i : Instr) (s : State), ∃ t : State, exec i s = .next t ∧
    coreExec s.params realSystem i (s.toCoreState.mapNum NUM.toReal) = t.toCoreState.mapNum NUM.toReal

/-! The zig-zag. -/

/-- 42_zigzag R163, R164. -/
def Obligations.ZigzagCommands : Prop :=
  (∀ s : State, s.faulted = false → s.vq = true →
    exec .zz s = .next { s with
      zq := Vector.ofFn fun k => s.qb[zzOrder k], vz0 := true, vza := true, cmdCnt := s.cmdCnt + 1 }) ∧
  (∀ s : State, s.faulted = false → s.vq = false → exec .zz s = .next (s.faultedWith .seq 0x1400 0)) ∧
  (∀ s : State, s.faulted = false → s.vz0 = true → s.vza = true →
    ∃ b : Block Int, (∀ k : Fin 64, b[zzOrder k] = s.zq[k]) ∧
      exec .izz s = .next { s with qb := b, vq := true, cmdCnt := s.cmdCnt + 1 }) ∧
  (∀ s : State, s.faulted = false → (s.vz0 = false ∨ s.vza = false) →
    exec .izz s = .next (s.faultedWith .seq 0x1500 0))

/-- 42_zigzag R160, R161, R166: the order is the walk over the 8×8 block, and the walk over a 4×4 block is the source's
example. -/
def Obligations.ZigzagOrderIsTheWalk : Prop :=
  (zzWalk 8).map (fun p => 8 * p.1 + p.2) = (List.finRange 64).map (fun k => (zzOrder k).val) ∧
  (∀ k : Fin 64, zzRank (zzOrder k) = k ∧ zzOrder (zzRank k) = k) ∧
  (zzWalk 4).map (fun p => 4 * p.1 + p.2) = [0, 1, 4, 8, 5, 2, 3, 6, 9, 12, 13, 10, 7, 11, 14, 15]

/-- 42_zigzag R162, R165: the two orders undo each other. -/
def Obligations.ZigzagsAreInverse : Prop :=
  (∀ b : Block Int, inverseZigzag (zigzag b) = b) ∧ (∀ z : Vector Int 64, zigzag (inverseZigzag z) = z)

/-! The DC coder. -/

/-- 43_dc_coder R172. What does not fit `INTW` is the subject of LimitFaults. -/
def Obligations.DceCommand : Prop :=
  (∀ (s : State) (l : Layer), s.Accepts l → s.vz0 = true →
    s.params.fits (s.zq[0] - s.predOf l) = true →
    exec (.dce l) s = .next
      (({ s with diff := s.zq[0] - s.predOf l, vd := true, cmdCnt := s.cmdCnt + 1 } : State).withPred l s.zq[0])) ∧
  (∀ (s : State) (l : Layer), s.faulted = false → (¬s.Accepts l ∨ s.vz0 = false) →
    exec (.dce l) s = .next (s.faultedWith .seq (0x1800 + l.code : Nat) 0))

/-- 43_dc_coder R173. What does not fit `INTW` is the subject of LimitFaults. -/
def Obligations.DcdCommand : Prop :=
  (∀ (s : State) (l : Layer), s.Accepts l → s.vd = true →
    s.params.fits (s.predOf l + s.diff) = true →
    exec (.dcd l) s = .next
      (({ s with zq := s.zq.set 0 (s.predOf l + s.diff), vz0 := true, cmdCnt := s.cmdCnt + 1 } : State).withPred l
        (s.predOf l + s.diff))) ∧
  (∀ (s : State) (l : Layer), s.faulted = false → (¬s.Accepts l ∨ s.vd = false) →
    exec (.dcd l) s = .next (s.faultedWith .seq (0x1900 + l.code : Nat) 0))

/-- 43_dc_coder R170, R172, R173, R174: from the predictor 0, `DCE` issued over a sequence of blocks gives its differences, and
`DCD` issued over those gives the sequence back, where all of them fit `INTW`. -/
def Obligations.DcCoderRoundTrip : Prop :=
  ∀ (l : Layer) (s : State) (seq : List Int), s.Accepts l → s.predOf l = 0 →
    (∀ v ∈ seq, s.params.fits v = true) → (∀ d ∈ encodeDifferential seq, s.params.fits d = true) →
    dceOver l s seq = encodeDifferential seq ∧ dcdOver l s (encodeDifferential seq) = seq ∧
      decodeDifferential (encodeDifferential seq) = seq

/-! The run-length coder. -/

/-- 44_rle_coder R181: `RL` is what the rule's loop over `ac[0..last]` leaves. -/
def Obligations.RleCommand : Prop :=
  (∀ s : State, s.faulted = false → s.vza = true →
    exec .rle s = .next { s with rl := rleByRule (s.zq.toList.drop 1), vr := true, cmdCnt := s.cmdCnt + 1 }) ∧
  (∀ s : State, s.faulted = false → s.vza = false → exec .rle s = .next (s.faultedWith .seq 0x1A00 0))

/-- 44_rle_coder R183. -/
def Obligations.RldCommand : Prop :=
  (∀ (s : State) (ps rest : List Pair), s.faulted = false → s.vr = true → s.rl = ps ++ eob :: rest → eob ∉ ps →
    exec .rld s = .next
      (if coeffCount ps ≤ 63 then
        { s with
          zq := Vector.ofFn fun k => if k.val = 0 then s.zq[0] else (expansion ps).getD (k.val - 1) 0
          vza := true, cmdCnt := s.cmdCnt + 1 }
      else s.faultedWith .rleFormat (coeffCount ps) 0)) ∧
  (∀ s : State, s.faulted = false → s.vr = true → eob ∉ s.rl → exec .rld s = .next (s.faultedWith .rleFormat 0 0)) ∧
  (∀ s : State, s.faulted = false → s.vr = false → exec .rld s = .next (s.faultedWith .seq 0x1B00 0))

/-- 44_rle_coder R184: `RLD` on the list `RLE` wrote restores the 63 coefficients, whatever else the machine has done since. -/
def Obligations.RunLengthRoundTrip : Prop :=
  ∀ s t u : State, s.faulted = false → s.vza = true → exec .rle s = .next t →
    u.faulted = false → u.vr = true → u.rl = t.rl →
    ∃ v, exec .rld u = .next v ∧ v.faulted = false ∧ ∀ k : Fin 64, k ≠ 0 → v.zq[k] = s.zq[k]

/-! The Huffman coder. -/

/-- 45_huffman R201, R203, and R204, whose inverse laws the spec derives from R202 and R203. -/
def Obligations.CategoryAndLiteral : Prop :=
  category 0 = 0 ∧ literal 0 = [] ∧ (∀ k : Nat, unliteral 0 k = 0) ∧
  (∀ v : Int, v ≠ 0 → 1 ≤ category v ∧ 2 ^ (category v - 1) ≤ v.natAbs ∧ v.natAbs ≤ 2 ^ category v - 1) ∧
  (∀ v : Int, 0 < v → literal v = binOf (category v) v.toNat) ∧
  (∀ v : Int, v < 0 → literal v = binOf (category v) (v + 2 ^ category v - 1).toNat) ∧
  (∀ v : Int, unliteral (category v) (valOf (literal v)) = v) ∧
  (∀ size k : Nat, 1 ≤ size → k < 2 ^ size →
    unliteral size k = (if 2 ^ (size - 1) ≤ k then (k : Int) else (k : Int) - (2 ^ size - 1)) ∧
    category (unliteral size k) = size ∧ literal (unliteral size k) = binOf size k)

/-- 45_huffman R205, R192: which values have an encoding, in all tables with the properties of R192. -/
def Obligations.EncodableValues : Prop :=
  ∀ h : HTables, h.valid = true →
    (∀ (d : Int) (l : Layer), (encDc h d l).isSome = true ↔ -2047 ≤ d ∧ d ≤ 2047) ∧
    (∀ (p : Pair) (l : Layer), (encAc h p l).isSome = true ↔
      p = eob ∨ p = zrl ∨ (p.run ≤ 15 ∧ p.value ≠ 0 ∧ -1023 ≤ p.value ∧ p.value ≤ 1023))

/-- 45_huffman R205, R209: the codeword of the category and the literal are appended at the end of the segment. What does
not fit `SEGCAP` is the subject of LimitFaults. -/
def Obligations.HedcCommand : Prop :=
  (∀ (s : State) (l : Layer), s.params.hTables.valid = true → s.Accepts l → s.vd = true → -2047 ≤ s.diff →
    s.diff ≤ 2047 →
    ∃ c : Code, (s.params.hTables.get .dc l).code? 0 (category s.diff) = some c ∧
      (s.params.holds (s.mem.len (segIx .dc l) + (c.bits ++ literal s.diff).length) = true →
        exec (.hedc l) s = .next { s with
          mem := s.mem.append (segIx .dc l) (c.bits ++ literal s.diff), cmdCnt := s.cmdCnt + 1 })) ∧
  (∀ (s : State) (l : Layer), s.Accepts l → s.vd = true → (s.diff < -2047 ∨ 2047 < s.diff) →
    exec (.hedc l) s = .next (s.faultedWith .dcRange s.diff 0)) ∧
  (∀ (s : State) (l : Layer), s.faulted = false → (¬s.Accepts l ∨ s.vd = false) →
    exec (.hedc l) s = .next (s.faultedWith .seq (0x2000 + l.code : Nat) 0))

/-- 45_huffman R210: all the pairs' bits in one append, or the index of the first pair that cannot be coded. What does not fit
`SEGCAP` is the subject of LimitFaults. -/
def Obligations.HeacCommand : Prop :=
  (∀ (s : State) (l : Layer), s.Accepts l → s.vr = true →
    (∀ p ∈ s.rl, (encAc s.params.hTables p l).isSome = true) →
    let b := s.rl.flatMap fun p => (encAc s.params.hTables p l).getD []
    s.params.holds (s.mem.len (segIx .ac l) + b.length) = true →
    exec (.heac l) s = .next { s with mem := s.mem.append (segIx .ac l) b, cmdCnt := s.cmdCnt + 1 }) ∧
  (∀ (s : State) (l : Layer) (before after : List Pair) (p : Pair), s.Accepts l → s.vr = true →
    s.rl = before ++ p :: after → (∀ q ∈ before, (encAc s.params.hTables q l).isSome = true) →
    encAc s.params.hTables p l = none →
    exec (.heac l) s = .next (s.faultedWith .acRange before.length 0)) ∧
  (∀ (s : State) (l : Layer), s.faulted = false → (¬s.Accepts l ∨ s.vr = false) →
    exec (.heac l) s = .next (s.faultedWith .seq (0x2100 + l.code : Nat) 0))

/-- 45_huffman R207, R211: when a DC symbol stands at the cursor, `HDDC` decodes it, and the symbol's own meaning is that
decoding (log 10), in all tables with the properties of R192. For all 24 DC symbols. What does not fit `INTW` is the
subject of LimitFaults. -/
def Obligations.DcSymbolAtCursor : Prop :=
  ∀ (i : Instr) (y : Symbol) (s : State) (tail : Bits), s.params.hTables.valid = true → i.symbol? = some y →
    y.type = .dc → s.Accepts y.layer →
    s.mem.rest (segIx .dc y.layer) = encode s.params.hTables i ++ tail →
    exec (.hddc y.layer) s = exec i s ∧
    (s.params.fits (unliteral y.size y.lit) = true →
      exec i s = .next { s with
        diff := unliteral y.size y.lit, vd := true
        mem := s.mem.setCur (segIx .dc y.layer)
          (s.mem.cur[segIx .dc y.layer] + (encode s.params.hTables i).length)
        cmdCnt := s.cmdCnt + 1 })

/-- 45_huffman R207, R212, R213: `HDAC` on the bits `HEAC` would append for a block's pairs reads the pairs back, whatever
follows them, in all tables with the properties of R192. What does not fit `INTW` is the subject of LimitFaults. -/
def Obligations.HdacDecodesBlock : Prop :=
  ∀ (s : State) (l : Layer) (ps : List Pair) (b tail : Bits), s.params.hTables.valid = true → s.Accepts l →
    eob ∉ ps → coeffCount ps ≤ 63 → encPairs s.params.hTables l 0 (ps ++ [eob]) = .ok b →
    s.mem.rest (segIx .ac l) = b ++ tail → s.params.fitsAll (ps.map fun p => p.value) = true →
    exec (.hdac l) s = .next { s with
      rl := ps ++ [eob], vr := true
      mem := s.mem.setCur (segIx .ac l) (s.mem.cur[segIx .ac l] + b.length), cmdCnt := s.cmdCnt + 1 }

/-- 45_huffman R207, R212: when an AC symbol stands at the cursor, the symbol's own meaning is `HDAC` (log 10); the EOB symbol
ends the block, and any other symbol with the EOB symbol after it makes a block of the one pair, in all tables with the
properties of R192. For all 324 AC symbols. What does not fit `INTW` is the subject of LimitFaults. -/
def Obligations.AcSymbolAtCursor : Prop :=
  (∀ (i : Instr) (y : Symbol) (s : State) (tail : Bits), s.params.hTables.valid = true → i.symbol? = some y →
    y.type = .ac → s.Accepts y.layer → s.mem.rest (segIx .ac y.layer) = encode s.params.hTables i ++ tail →
    exec i s = exec (.hdac y.layer) s) ∧
  (∀ (i e : Instr) (y : Symbol) (s : State) (tail : Bits), s.params.hTables.valid = true → i.symbol? = some y →
    y.type = .ac → e.symbol? = some ⟨.ac, y.layer, 0, 0, 0⟩ → i ≠ e → s.Accepts y.layer →
    s.mem.rest (segIx .ac y.layer) = encode s.params.hTables i ++ encode s.params.hTables e ++ tail →
    s.params.fits (unliteral y.size y.lit) = true →
    exec i s = .next { s with
      rl := [⟨y.run, unliteral y.size y.lit⟩, eob], vr := true
      mem := s.mem.setCur (segIx .ac y.layer)
        (s.mem.cur[segIx .ac y.layer] + (encode s.params.hTables i).length + (encode s.params.hTables e).length)
      cmdCnt := s.cmdCnt + 1 }) ∧
  (∀ (e : Instr) (l : Layer) (s : State) (tail : Bits), s.params.hTables.valid = true →
    e.symbol? = some ⟨.ac, l, 0, 0, 0⟩ → s.Accepts l →
    s.mem.rest (segIx .ac l) = encode s.params.hTables e ++ tail →
    exec e s = .next { s with
      rl := [eob], vr := true
      mem := s.mem.setCur (segIx .ac l) (s.mem.cur[segIx .ac l] + (encode s.params.hTables e).length)
      cmdCnt := s.cmdCnt + 1 })

/-- 45_huffman R206, R207, R211; 60_exceptions R308, R309: the faults of `HDDC` report the cursor and the segment. A symbol's own
meaning, for all 348 symbols, is an underrun when fewer bits than the symbol's are left; where the bits that are left are not
the beginning of that symbol, this is the model's choice (log 10). -/
def Obligations.SymbolFaults : Prop :=
  (∀ (s : State) (l : Layer), s.Accepts l →
    readSymbol s.params.hTables .dc l (s.mem.rest (segIx .dc l)) = .error .noMatch →
    exec (.hddc l) s = .next (s.faultedWith .noMatch s.mem.cur[segIx .dc l] (segIx .dc l))) ∧
  (∀ (s : State) (l : Layer), s.Accepts l →
    readSymbol s.params.hTables .dc l (s.mem.rest (segIx .dc l)) = .error .underrun →
    exec (.hddc l) s = .next (s.faultedWith .underrun s.mem.cur[segIx .dc l] (segIx .dc l))) ∧
  (∀ (i : Instr) (y : Symbol) (s : State), i.symbol? = some y → s.Accepts y.layer →
    (s.mem.rest (segIx y.type y.layer)).length < (encode s.params.hTables i).length →
    exec i s = .next (s.faultedWith .underrun s.mem.cur[segIx y.type y.layer] (segIx y.type y.layer)))

/-- 45_huffman R206, R207, R212; 60_exceptions R308, R309, R310: after any number of symbols that decode, a block of `HDAC` that
cannot read its next symbol reports where that symbol starts, and one that passes 63 coefficients reports the count; in all
tables with the properties of R192. -/
def Obligations.HdacFaults : Prop :=
  (∀ (s : State) (l : Layer) (ps : List Pair) (b tail : Bits), s.params.hTables.valid = true → s.Accepts l →
    eob ∉ ps → coeffCount ps ≤ 63 →
    encPairs s.params.hTables l 0 ps = .ok b → s.mem.rest (segIx .ac l) = b ++ tail →
    (readSymbol s.params.hTables .ac l tail = .error .underrun →
      exec (.hdac l) s = .next (s.faultedWith .underrun (s.mem.cur[segIx .ac l] + b.length : Nat) (segIx .ac l))) ∧
    (readSymbol s.params.hTables .ac l tail = .error .noMatch →
      exec (.hdac l) s = .next (s.faultedWith .noMatch (s.mem.cur[segIx .ac l] + b.length : Nat) (segIx .ac l)))) ∧
  (∀ (s : State) (l : Layer) (ps : List Pair) (p : Pair) (b tail : Bits), s.params.hTables.valid = true →
    s.Accepts l → eob ∉ ps → p ≠ eob →
    coeffCount ps ≤ 63 → 63 < coeffCount (ps ++ [p]) → encPairs s.params.hTables l 0 (ps ++ [p]) = .ok b →
    s.mem.rest (segIx .ac l) = b ++ tail →
    exec (.hdac l) s = .next (s.faultedWith .rleFormat (coeffCount (ps ++ [p])) 0))

/-! The limits of an implementation with finite registers or buffers. -/

/-- 93_implementation_defined U6, U17: a CORE built with a finite `INTW` or `SEGCAP` (00_scope R10) faults where a value or a
segment does not fit: it wraps nothing and drops no bit. With which code and datum is a free value; that it is a fault of the
CORE, and when in the command it is raised, is the model's choice (log 5). -/
def Obligations.LimitFaults : Prop :=
  (∀ (s : State) (l : Layer), s.Accepts l → s.quality ≠ 0 → s.vx = true →
    s.params.fitsAll (quantize s.params exactSystem l s.quality s.xb).toList = false →
    exec (.qnt l) s = .next (s.limited .intWidth)) ∧
  (∀ (s : State) (l : Layer), s.Accepts l → s.vz0 = true → s.params.fits (s.zq[0] - s.predOf l) = false →
    exec (.dce l) s = .next (s.limited .intWidth)) ∧
  (∀ (s : State) (l : Layer), s.Accepts l → s.vd = true → s.params.fits (s.predOf l + s.diff) = false →
    exec (.dcd l) s = .next (s.limited .intWidth)) ∧
  (∀ (s : State) (l : Layer) (d : Int) (b tail : Bits), s.params.hTables.valid = true → s.Accepts l →
    encDc s.params.hTables d l = some b → s.mem.rest (segIx .dc l) = b ++ tail → s.params.fits d = false →
    exec (.hddc l) s = .next (s.limited .intWidth)) ∧
  (∀ (s : State) (l : Layer) (ps : List Pair) (b tail : Bits), s.params.hTables.valid = true → s.Accepts l →
    eob ∉ ps → coeffCount ps ≤ 63 → encPairs s.params.hTables l 0 (ps ++ [eob]) = .ok b →
    s.mem.rest (segIx .ac l) = b ++ tail → s.params.fitsAll (ps.map fun p => p.value) = false →
    exec (.hdac l) s = .next (s.limited .intWidth)) ∧
  (∀ (s : State) (l : Layer) (b : Bits), s.Accepts l → s.vd = true → -2047 ≤ s.diff → s.diff ≤ 2047 →
    encDc s.params.hTables s.diff l = some b → s.params.holds (s.mem.len (segIx .dc l) + b.length) = false →
    exec (.hedc l) s = .next (s.limited .segCap)) ∧
  (∀ (s : State) (l : Layer) (b : Bits), s.Accepts l → s.vr = true →
    encPairs s.params.hTables l 0 s.rl = .ok b → s.params.holds (s.mem.len (segIx .ac l) + b.length) = false →
    exec (.heac l) s = .next (s.limited .segCap)) ∧
  (∀ (s : State) (r : Record) (rest : List Record) (k : Fin 4), s.faulted = false → s.bin = r :: rest →
    headerFault s.nseg r = none → s.params.holds (sliceSegs s.params.bitOrder r)[k].length = false →
    exec .slice s = .next (s.limited .segCap))

/-! The packer and the slicer. -/

/-- 47_packer R243, R245; 20_memory R66: the record's bits, in the bytes' `BITORDER`, are the active segments, then the zero
padding to whole bytes. The rules' order is MSB first (20_memory R63); for LSB first it is the model's choice (log 23). -/
def Obligations.PackCommand : Prop :=
  ∀ s : State, s.faulted = false →
    ∃ r : Record, exec .pack s = .next { s with
        remBits := (8 - s.activeSegs.flatten.length % 8) % 8, bout := s.bout ++ [r], cmdCnt := s.cmdCnt + 1 } ∧
      bitsOf s.params.bitOrder r.data = s.activeSegs.flatten ++
        List.replicate ((8 - s.activeSegs.flatten.length % 8) % 8) false ∧
      r.remainingBits = ((8 - s.activeSegs.flatten.length % 8) % 8 : Nat) ∧
      r.sliceLengths = s.activeSegs.map fun b => (b.length : Int)

/-- 47_packer R244, 60_exceptions R311: the four checks in order, then the segments cut at the running offsets. What does not fit
`SEGCAP` is the subject of LimitFaults. The rules' `BITORDER` is MSB first (20_memory R63); for LSB first it is the model's choice
(log 23). -/
def Obligations.SliceCommand : Prop :=
  (∀ s : State, s.faulted = false → s.bin = [] → exec .slice s = .next (s.faultedWith .seq 0x2900 0)) ∧
  (∀ (s : State) (r : Record) (rest : List Record), s.faulted = false → s.bin = r :: rest →
    let failed : Option Nat :=
      if r.sliceLengths.length ≠ s.nseg then some 1
      else if ∃ n ∈ r.sliceLengths, n < 0 then some 2
      else if r.remainingBits < 0 ∨ 7 < r.remainingBits then some 3
      else if r.sliceLengths.sum + r.remainingBits ≠ 8 * (r.data.length : Int) then some 4
      else none
    let segs : Vector Bits 4 := Vector.ofFn fun k =>
      window (bitsOf s.params.bitOrder r.data) (r.sliceLengths.take k.val).sum.toNat (r.sliceLengths.getD k.val 0).toNat
    (∀ n, failed = some n → exec .slice s = .next (s.faultedWith .header n 0)) ∧
    (failed = none → (∀ k : Fin 4, s.params.holds segs[k].length = true) →
      exec .slice s = .next { s with
        mem := ⟨segs, Vector.replicate 4 0⟩, remBits := r.remainingBits.toNat, bin := rest, cmdCnt := s.cmdCnt + 1 }))

/-- 47_packer R247: what `PACK` appended, `SLICE` cuts into the same segments, in any machine with the same `GREY` and `BITORDER`
whose buffers hold them. The rules' `BITORDER` is MSB first; for LSB first it is the model's choice (log 23). -/
def Obligations.PackSliceRoundTrip : Prop :=
  ∀ (s t u : State) (r : Record) (rest : List Record), s.faulted = false → exec .pack s = .next t →
    t.bout = s.bout ++ [r] → u.faulted = false → u.grey = s.grey → u.params.bitOrder = s.params.bitOrder →
    (∀ k : Fin 4, k.val < s.nseg → u.params.holds (s.mem.len k) = true) → u.bin = r :: rest →
    ∃ v, exec .slice u = .next v ∧ v.faulted = false ∧ v.remBits = t.remBits ∧ v.bin = rest ∧
      ∀ k : Fin 4, v.mem.cur[k] = 0 ∧ v.mem.seg[k] = if k.val < s.nseg then s.mem.seg[k] else []

/-! The composite commands. -/

/-- 48_dispatcher R270: the state `ENCBLK` leaves, and the faults it takes, in the order of its steps; what is beyond `INTW` or
`SEGCAP` is a limit's fault (log 5). The tables have the properties of 45_huffman R192. -/
def Obligations.EncblkCommand : Prop :=
  (∀ (s : State) (l : Layer), s.faulted = false → (¬s.Accepts l ∨ s.quality = 0 ∨ s.xin = []) →
    exec (.encblk l) s = .next (s.faultedWith .seq (0x3000 + l.code : Nat) 0)) ∧
  (∀ (s : State) (l : Layer) (b : Block NUM) (rest : List (Block NUM)), s.params.hTables.valid = true → s.Accepts l →
    s.quality ≠ 0 → s.xin = b :: rest →
    let q := quantize s.params exactSystem l s.quality (fdct b)
    let z := zigzag q
    let d := z[0] - s.predOf l
    let ps := rleByRule (z.toList.drop 1)
    (s.params.fitsAll q.toList = false → exec (.encblk l) s = .next (s.limited .intWidth)) ∧
    (s.params.fitsAll q.toList = true → s.params.fits d = false →
      exec (.encblk l) s = .next (s.limited .intWidth)) ∧
    (s.params.fitsAll q.toList = true → s.params.fits d = true → (d < -2047 ∨ 2047 < d) →
      exec (.encblk l) s = .next (s.faultedWith .dcRange d 0)) ∧
    (s.params.fitsAll q.toList = true → s.params.fits d = true → -2047 ≤ d → d ≤ 2047 →
      ∃ bd, encDc s.params.hTables d l = some bd ∧
        (s.params.holds (s.mem.len (segIx .dc l) + bd.length) = false →
          exec (.encblk l) s = .next (s.limited .segCap)) ∧
        (s.params.holds (s.mem.len (segIx .dc l) + bd.length) = true →
          (∀ (before after : List Pair) (p : Pair), ps = before ++ p :: after →
            (∀ x ∈ before, (encAc s.params.hTables x l).isSome = true) → encAc s.params.hTables p l = none →
            exec (.encblk l) s = .next (s.faultedWith .acRange before.length 0)) ∧
          ((∀ k : Fin 64, k ≠ 0 → -1023 ≤ z[k] ∧ z[k] ≤ 1023) →
            ∃ ba, encPairs s.params.hTables l 0 ps = .ok ba ∧
              exec (.encblk l) s = .next
                (if s.params.holds (s.mem.len (segIx .ac l) + ba.length) then
                  ({ s with
                    xin := rest, xb := fdct b, qb := q, zq := z, diff := d, rl := ps
                    vx := true, vq := true, vz0 := true, vza := true, vd := true, vr := true
                    mem := (s.mem.append (segIx .dc l) bd).append (segIx .ac l) ba
                    cmdCnt := s.cmdCnt + 1 } : State).withPred l z[0]
                else s.limited .segCap)))))

/-- 48_dispatcher R271: the faults `DECBLK` takes: its own `E_SEQ`; those of the DC symbol; after a DC symbol that decodes, those
of its `HDAC` step, at the position where the bad AC symbol starts or with the count; and the state it leaves when a block's AC
symbols stand at their cursor. What is beyond `INTW` is a limit's fault (log 5). The tables have the properties of 45_huffman
R192. -/
def Obligations.DecblkCommand : Prop :=
  (∀ (s : State) (l : Layer), s.faulted = false → (¬s.Accepts l ∨ s.quality = 0) →
    exec (.decblk l) s = .next (s.faultedWith .seq (0x3100 + l.code : Nat) 0)) ∧
  (∀ (s : State) (l : Layer) (e : SymbolFault), s.Accepts l → s.quality ≠ 0 →
    readSymbol s.params.hTables .dc l (s.mem.rest (segIx .dc l)) = .error e →
    exec (.decblk l) s = .next (s.faultedWith (match e with | .underrun => .underrun | .noMatch => .noMatch)
      s.mem.cur[segIx .dc l] (segIx .dc l))) ∧
  (∀ (s : State) (l : Layer) (d : Int) (bd td : Bits), s.params.hTables.valid = true → s.Accepts l → s.quality ≠ 0 →
    encDc s.params.hTables d l = some bd → s.mem.rest (segIx .dc l) = bd ++ td →
    let v := s.predOf l + d
    ((s.params.fits d = false ∨ s.params.fits v = false) → exec (.decblk l) s = .next (s.limited .intWidth)) ∧
    (s.params.fits d = true → s.params.fits v = true →
      (∀ (ps : List Pair) (b tail : Bits) (e : SymbolFault), eob ∉ ps → coeffCount ps ≤ 63 →
        encPairs s.params.hTables l 0 ps = .ok b → s.mem.rest (segIx .ac l) = b ++ tail →
        readSymbol s.params.hTables .ac l tail = .error e →
        exec (.decblk l) s = .next (s.faultedWith (match e with | .underrun => .underrun | .noMatch => .noMatch)
          (s.mem.cur[segIx .ac l] + b.length : Nat) (segIx .ac l))) ∧
      (∀ (ps : List Pair) (p : Pair) (b tail : Bits), eob ∉ ps → p ≠ eob → coeffCount ps ≤ 63 →
        63 < coeffCount (ps ++ [p]) → encPairs s.params.hTables l 0 (ps ++ [p]) = .ok b →
        s.mem.rest (segIx .ac l) = b ++ tail →
        exec (.decblk l) s = .next (s.faultedWith .rleFormat (coeffCount (ps ++ [p])) 0)) ∧
      (∀ (ps : List Pair) (ba ta : Bits), eob ∉ ps → coeffCount ps ≤ 63 →
        encPairs s.params.hTables l 0 (ps ++ [eob]) = .ok ba → s.mem.rest (segIx .ac l) = ba ++ ta →
        let z : Vector Int 64 := Vector.ofFn fun k => if k.val = 0 then v else (expansion ps).getD (k.val - 1) 0
        let q := inverseZigzag z
        let x := idct (dequantize s.params exactSystem l s.quality q)
        exec (.decblk l) s = .next
          (if s.params.fitsAll (ps.map fun p => p.value) then
            ({ s with
              diff := d, rl := ps ++ [eob], zq := z, qb := q, xb := x, xout := s.xout ++ [x]
              vx := true, vq := true, vz0 := true, vza := true, vd := true, vr := true
              mem := (s.mem.setCur (segIx .dc l) (s.mem.cur[segIx .dc l] + bd.length)).setCur (segIx .ac l)
                (s.mem.cur[segIx .ac l] + ba.length)
              cmdCnt := s.cmdCnt + 1 } : State).withPred l v
          else s.limited .intWidth))))

/-- 48_dispatcher R272: where no step faults, a composite leaves what its eight commands leave one by one, but for `CMDCNT`,
and the other way round. -/
def Obligations.CompositeIsSequence : Prop :=
  ∀ (s : State) (l : Layer), s.faulted = false →
    (∀ u : State, execList [.ldx, .fdct, .qnt l, .zz, .dce l, .hedc l, .rle, .heac l] s = .next u → u.faulted = false →
      exec (.encblk l) s = .next { u with cmdCnt := s.cmdCnt + 1 }) ∧
    (∀ u : State, exec (.encblk l) s = .next u → u.faulted = false →
      execList [.ldx, .fdct, .qnt l, .zz, .dce l, .hedc l, .rle, .heac l] s = .next { u with cmdCnt := s.cmdCnt + 8 }) ∧
    (∀ u : State, execList [.hddc l, .dcd l, .hdac l, .rld, .izz, .dqt l, .idct, .stx] s = .next u → u.faulted = false →
      exec (.decblk l) s = .next { u with cmdCnt := s.cmdCnt + 1 }) ∧
    (∀ u : State, exec (.decblk l) s = .next u → u.faulted = false →
      execList [.hddc l, .dcd l, .hdac l, .rld, .izz, .dqt l, .idct, .stx] s = .next { u with cmdCnt := s.cmdCnt + 8 })

end
end

