-- ==== Sys2Proof/Laws/State.lean ====
section
/-! SUPPORT. One lemma per field per update of the state, so that no proof unfolds a record update. -/

namespace Sys2Proof.Machine

variable {ν : Type} (s : CoreState ν)

/-! After writing `XB`. -/

@[simp] theorem writeXb_xb (b : Block ν) : (writeXb b s).xb = b := rfl
@[simp] theorem writeXb_qb (b : Block ν) : (writeXb b s).qb = s.qb := rfl
@[simp] theorem writeXb_zq (b : Block ν) : (writeXb b s).zq = s.zq := rfl
@[simp] theorem writeXb_diff (b : Block ν) : (writeXb b s).diff = s.diff := rfl
@[simp] theorem writeXb_rl (b : Block ν) : (writeXb b s).rl = s.rl := rfl
@[simp] theorem writeXb_predLum (b : Block ν) : (writeXb b s).predLum = s.predLum := rfl
@[simp] theorem writeXb_predChr (b : Block ν) : (writeXb b s).predChr = s.predChr := rfl
@[simp] theorem writeXb_vx (b : Block ν) : (writeXb b s).vx = true := rfl
@[simp] theorem writeXb_vq (b : Block ν) : (writeXb b s).vq = s.vq := rfl
@[simp] theorem writeXb_vz0 (b : Block ν) : (writeXb b s).vz0 = s.vz0 := rfl
@[simp] theorem writeXb_vza (b : Block ν) : (writeXb b s).vza = s.vza := rfl
@[simp] theorem writeXb_vd (b : Block ν) : (writeXb b s).vd = s.vd := rfl
@[simp] theorem writeXb_vr (b : Block ν) : (writeXb b s).vr = s.vr := rfl
@[simp] theorem writeXb_faulted (b : Block ν) : (writeXb b s).faulted = s.faulted := rfl
@[simp] theorem writeXb_err (b : Block ν) : (writeXb b s).err = s.err := rfl
@[simp] theorem writeXb_errSeg (b : Block ν) : (writeXb b s).errSeg = s.errSeg := rfl
@[simp] theorem writeXb_errInfo (b : Block ν) : (writeXb b s).errInfo = s.errInfo := rfl
@[simp] theorem writeXb_quality (b : Block ν) : (writeXb b s).quality = s.quality := rfl
@[simp] theorem writeXb_grey (b : Block ν) : (writeXb b s).grey = s.grey := rfl
@[simp] theorem writeXb_remBits (b : Block ν) : (writeXb b s).remBits = s.remBits := rfl
@[simp] theorem writeXb_cmdCnt (b : Block ν) : (writeXb b s).cmdCnt = s.cmdCnt := rfl
@[simp] theorem writeXb_mem (b : Block ν) : (writeXb b s).mem = s.mem := rfl
@[simp] theorem writeXb_xin (b : Block ν) : (writeXb b s).xin = s.xin := rfl
@[simp] theorem writeXb_xout (b : Block ν) : (writeXb b s).xout = s.xout := rfl
@[simp] theorem writeXb_bin (b : Block ν) : (writeXb b s).bin = s.bin := rfl
@[simp] theorem writeXb_bout (b : Block ν) : (writeXb b s).bout = s.bout := rfl

/-! After writing `QB`. -/

@[simp] theorem writeQb_xb (b : Block Int) : (writeQb b s).xb = s.xb := rfl
@[simp] theorem writeQb_qb (b : Block Int) : (writeQb b s).qb = b := rfl
@[simp] theorem writeQb_zq (b : Block Int) : (writeQb b s).zq = s.zq := rfl
@[simp] theorem writeQb_diff (b : Block Int) : (writeQb b s).diff = s.diff := rfl
@[simp] theorem writeQb_rl (b : Block Int) : (writeQb b s).rl = s.rl := rfl
@[simp] theorem writeQb_predLum (b : Block Int) : (writeQb b s).predLum = s.predLum := rfl
@[simp] theorem writeQb_predChr (b : Block Int) : (writeQb b s).predChr = s.predChr := rfl
@[simp] theorem writeQb_vx (b : Block Int) : (writeQb b s).vx = s.vx := rfl
@[simp] theorem writeQb_vq (b : Block Int) : (writeQb b s).vq = true := rfl
@[simp] theorem writeQb_vz0 (b : Block Int) : (writeQb b s).vz0 = s.vz0 := rfl
@[simp] theorem writeQb_vza (b : Block Int) : (writeQb b s).vza = s.vza := rfl
@[simp] theorem writeQb_vd (b : Block Int) : (writeQb b s).vd = s.vd := rfl
@[simp] theorem writeQb_vr (b : Block Int) : (writeQb b s).vr = s.vr := rfl
@[simp] theorem writeQb_faulted (b : Block Int) : (writeQb b s).faulted = s.faulted := rfl
@[simp] theorem writeQb_err (b : Block Int) : (writeQb b s).err = s.err := rfl
@[simp] theorem writeQb_errSeg (b : Block Int) : (writeQb b s).errSeg = s.errSeg := rfl
@[simp] theorem writeQb_errInfo (b : Block Int) : (writeQb b s).errInfo = s.errInfo := rfl
@[simp] theorem writeQb_quality (b : Block Int) : (writeQb b s).quality = s.quality := rfl
@[simp] theorem writeQb_grey (b : Block Int) : (writeQb b s).grey = s.grey := rfl
@[simp] theorem writeQb_remBits (b : Block Int) : (writeQb b s).remBits = s.remBits := rfl
@[simp] theorem writeQb_cmdCnt (b : Block Int) : (writeQb b s).cmdCnt = s.cmdCnt := rfl
@[simp] theorem writeQb_mem (b : Block Int) : (writeQb b s).mem = s.mem := rfl
@[simp] theorem writeQb_xin (b : Block Int) : (writeQb b s).xin = s.xin := rfl
@[simp] theorem writeQb_xout (b : Block Int) : (writeQb b s).xout = s.xout := rfl
@[simp] theorem writeQb_bin (b : Block Int) : (writeQb b s).bin = s.bin := rfl
@[simp] theorem writeQb_bout (b : Block Int) : (writeQb b s).bout = s.bout := rfl

/-! After writing `ZQ[0..63]`. -/

@[simp] theorem writeZq_xb (z : Vector Int 64) : (writeZq z s).xb = s.xb := rfl
@[simp] theorem writeZq_qb (z : Vector Int 64) : (writeZq z s).qb = s.qb := rfl
@[simp] theorem writeZq_zq (z : Vector Int 64) : (writeZq z s).zq = z := rfl
@[simp] theorem writeZq_diff (z : Vector Int 64) : (writeZq z s).diff = s.diff := rfl
@[simp] theorem writeZq_rl (z : Vector Int 64) : (writeZq z s).rl = s.rl := rfl
@[simp] theorem writeZq_predLum (z : Vector Int 64) : (writeZq z s).predLum = s.predLum := rfl
@[simp] theorem writeZq_predChr (z : Vector Int 64) : (writeZq z s).predChr = s.predChr := rfl
@[simp] theorem writeZq_vx (z : Vector Int 64) : (writeZq z s).vx = s.vx := rfl
@[simp] theorem writeZq_vq (z : Vector Int 64) : (writeZq z s).vq = s.vq := rfl
@[simp] theorem writeZq_vz0 (z : Vector Int 64) : (writeZq z s).vz0 = true := rfl
@[simp] theorem writeZq_vza (z : Vector Int 64) : (writeZq z s).vza = true := rfl
@[simp] theorem writeZq_vd (z : Vector Int 64) : (writeZq z s).vd = s.vd := rfl
@[simp] theorem writeZq_vr (z : Vector Int 64) : (writeZq z s).vr = s.vr := rfl
@[simp] theorem writeZq_faulted (z : Vector Int 64) : (writeZq z s).faulted = s.faulted := rfl
@[simp] theorem writeZq_err (z : Vector Int 64) : (writeZq z s).err = s.err := rfl
@[simp] theorem writeZq_errSeg (z : Vector Int 64) : (writeZq z s).errSeg = s.errSeg := rfl
@[simp] theorem writeZq_errInfo (z : Vector Int 64) : (writeZq z s).errInfo = s.errInfo := rfl
@[simp] theorem writeZq_quality (z : Vector Int 64) : (writeZq z s).quality = s.quality := rfl
@[simp] theorem writeZq_grey (z : Vector Int 64) : (writeZq z s).grey = s.grey := rfl
@[simp] theorem writeZq_remBits (z : Vector Int 64) : (writeZq z s).remBits = s.remBits := rfl
@[simp] theorem writeZq_cmdCnt (z : Vector Int 64) : (writeZq z s).cmdCnt = s.cmdCnt := rfl
@[simp] theorem writeZq_mem (z : Vector Int 64) : (writeZq z s).mem = s.mem := rfl
@[simp] theorem writeZq_xin (z : Vector Int 64) : (writeZq z s).xin = s.xin := rfl
@[simp] theorem writeZq_xout (z : Vector Int 64) : (writeZq z s).xout = s.xout := rfl
@[simp] theorem writeZq_bin (z : Vector Int 64) : (writeZq z s).bin = s.bin := rfl
@[simp] theorem writeZq_bout (z : Vector Int 64) : (writeZq z s).bout = s.bout := rfl

/-! After writing `ZQ[0]`. -/

@[simp] theorem writeZq0_xb (v : Int) : (writeZq0 v s).xb = s.xb := rfl
@[simp] theorem writeZq0_qb (v : Int) : (writeZq0 v s).qb = s.qb := rfl
@[simp] theorem writeZq0_zq (v : Int) : (writeZq0 v s).zq = s.zq.set 0 v := rfl
@[simp] theorem writeZq0_diff (v : Int) : (writeZq0 v s).diff = s.diff := rfl
@[simp] theorem writeZq0_rl (v : Int) : (writeZq0 v s).rl = s.rl := rfl
@[simp] theorem writeZq0_predLum (v : Int) : (writeZq0 v s).predLum = s.predLum := rfl
@[simp] theorem writeZq0_predChr (v : Int) : (writeZq0 v s).predChr = s.predChr := rfl
@[simp] theorem writeZq0_vx (v : Int) : (writeZq0 v s).vx = s.vx := rfl
@[simp] theorem writeZq0_vq (v : Int) : (writeZq0 v s).vq = s.vq := rfl
@[simp] theorem writeZq0_vz0 (v : Int) : (writeZq0 v s).vz0 = true := rfl
@[simp] theorem writeZq0_vza (v : Int) : (writeZq0 v s).vza = s.vza := rfl
@[simp] theorem writeZq0_vd (v : Int) : (writeZq0 v s).vd = s.vd := rfl
@[simp] theorem writeZq0_vr (v : Int) : (writeZq0 v s).vr = s.vr := rfl
@[simp] theorem writeZq0_faulted (v : Int) : (writeZq0 v s).faulted = s.faulted := rfl
@[simp] theorem writeZq0_err (v : Int) : (writeZq0 v s).err = s.err := rfl
@[simp] theorem writeZq0_errSeg (v : Int) : (writeZq0 v s).errSeg = s.errSeg := rfl
@[simp] theorem writeZq0_errInfo (v : Int) : (writeZq0 v s).errInfo = s.errInfo := rfl
@[simp] theorem writeZq0_quality (v : Int) : (writeZq0 v s).quality = s.quality := rfl
@[simp] theorem writeZq0_grey (v : Int) : (writeZq0 v s).grey = s.grey := rfl
@[simp] theorem writeZq0_remBits (v : Int) : (writeZq0 v s).remBits = s.remBits := rfl
@[simp] theorem writeZq0_cmdCnt (v : Int) : (writeZq0 v s).cmdCnt = s.cmdCnt := rfl
@[simp] theorem writeZq0_mem (v : Int) : (writeZq0 v s).mem = s.mem := rfl
@[simp] theorem writeZq0_xin (v : Int) : (writeZq0 v s).xin = s.xin := rfl
@[simp] theorem writeZq0_xout (v : Int) : (writeZq0 v s).xout = s.xout := rfl
@[simp] theorem writeZq0_bin (v : Int) : (writeZq0 v s).bin = s.bin := rfl
@[simp] theorem writeZq0_bout (v : Int) : (writeZq0 v s).bout = s.bout := rfl

/-! After writing `ZQ[1..63]`. -/

@[simp] theorem writeZqAc_xb (ac : List Int) : (writeZqAc ac s).xb = s.xb := rfl
@[simp] theorem writeZqAc_qb (ac : List Int) : (writeZqAc ac s).qb = s.qb := rfl
@[simp] theorem writeZqAc_zq (ac : List Int) :
    (writeZqAc ac s).zq = s.zq.mapIdx fun k x => if k = 0 then x else ac.getD (k - 1) 0 := rfl
@[simp] theorem writeZqAc_diff (ac : List Int) : (writeZqAc ac s).diff = s.diff := rfl
@[simp] theorem writeZqAc_rl (ac : List Int) : (writeZqAc ac s).rl = s.rl := rfl
@[simp] theorem writeZqAc_predLum (ac : List Int) : (writeZqAc ac s).predLum = s.predLum := rfl
@[simp] theorem writeZqAc_predChr (ac : List Int) : (writeZqAc ac s).predChr = s.predChr := rfl
@[simp] theorem writeZqAc_vx (ac : List Int) : (writeZqAc ac s).vx = s.vx := rfl
@[simp] theorem writeZqAc_vq (ac : List Int) : (writeZqAc ac s).vq = s.vq := rfl
@[simp] theorem writeZqAc_vz0 (ac : List Int) : (writeZqAc ac s).vz0 = s.vz0 := rfl
@[simp] theorem writeZqAc_vza (ac : List Int) : (writeZqAc ac s).vza = true := rfl
@[simp] theorem writeZqAc_vd (ac : List Int) : (writeZqAc ac s).vd = s.vd := rfl
@[simp] theorem writeZqAc_vr (ac : List Int) : (writeZqAc ac s).vr = s.vr := rfl
@[simp] theorem writeZqAc_faulted (ac : List Int) : (writeZqAc ac s).faulted = s.faulted := rfl
@[simp] theorem writeZqAc_err (ac : List Int) : (writeZqAc ac s).err = s.err := rfl
@[simp] theorem writeZqAc_errSeg (ac : List Int) : (writeZqAc ac s).errSeg = s.errSeg := rfl
@[simp] theorem writeZqAc_errInfo (ac : List Int) : (writeZqAc ac s).errInfo = s.errInfo := rfl
@[simp] theorem writeZqAc_quality (ac : List Int) : (writeZqAc ac s).quality = s.quality := rfl
@[simp] theorem writeZqAc_grey (ac : List Int) : (writeZqAc ac s).grey = s.grey := rfl
@[simp] theorem writeZqAc_remBits (ac : List Int) : (writeZqAc ac s).remBits = s.remBits := rfl
@[simp] theorem writeZqAc_cmdCnt (ac : List Int) : (writeZqAc ac s).cmdCnt = s.cmdCnt := rfl
@[simp] theorem writeZqAc_mem (ac : List Int) : (writeZqAc ac s).mem = s.mem := rfl
@[simp] theorem writeZqAc_xin (ac : List Int) : (writeZqAc ac s).xin = s.xin := rfl
@[simp] theorem writeZqAc_xout (ac : List Int) : (writeZqAc ac s).xout = s.xout := rfl
@[simp] theorem writeZqAc_bin (ac : List Int) : (writeZqAc ac s).bin = s.bin := rfl
@[simp] theorem writeZqAc_bout (ac : List Int) : (writeZqAc ac s).bout = s.bout := rfl

/-! After writing `DIFF`. -/

@[simp] theorem writeDiff_xb (v : Int) : (writeDiff v s).xb = s.xb := rfl
@[simp] theorem writeDiff_qb (v : Int) : (writeDiff v s).qb = s.qb := rfl
@[simp] theorem writeDiff_zq (v : Int) : (writeDiff v s).zq = s.zq := rfl
@[simp] theorem writeDiff_diff (v : Int) : (writeDiff v s).diff = v := rfl
@[simp] theorem writeDiff_rl (v : Int) : (writeDiff v s).rl = s.rl := rfl
@[simp] theorem writeDiff_predLum (v : Int) : (writeDiff v s).predLum = s.predLum := rfl
@[simp] theorem writeDiff_predChr (v : Int) : (writeDiff v s).predChr = s.predChr := rfl
@[simp] theorem writeDiff_vx (v : Int) : (writeDiff v s).vx = s.vx := rfl
@[simp] theorem writeDiff_vq (v : Int) : (writeDiff v s).vq = s.vq := rfl
@[simp] theorem writeDiff_vz0 (v : Int) : (writeDiff v s).vz0 = s.vz0 := rfl
@[simp] theorem writeDiff_vza (v : Int) : (writeDiff v s).vza = s.vza := rfl
@[simp] theorem writeDiff_vd (v : Int) : (writeDiff v s).vd = true := rfl
@[simp] theorem writeDiff_vr (v : Int) : (writeDiff v s).vr = s.vr := rfl
@[simp] theorem writeDiff_faulted (v : Int) : (writeDiff v s).faulted = s.faulted := rfl
@[simp] theorem writeDiff_err (v : Int) : (writeDiff v s).err = s.err := rfl
@[simp] theorem writeDiff_errSeg (v : Int) : (writeDiff v s).errSeg = s.errSeg := rfl
@[simp] theorem writeDiff_errInfo (v : Int) : (writeDiff v s).errInfo = s.errInfo := rfl
@[simp] theorem writeDiff_quality (v : Int) : (writeDiff v s).quality = s.quality := rfl
@[simp] theorem writeDiff_grey (v : Int) : (writeDiff v s).grey = s.grey := rfl
@[simp] theorem writeDiff_remBits (v : Int) : (writeDiff v s).remBits = s.remBits := rfl
@[simp] theorem writeDiff_cmdCnt (v : Int) : (writeDiff v s).cmdCnt = s.cmdCnt := rfl
@[simp] theorem writeDiff_mem (v : Int) : (writeDiff v s).mem = s.mem := rfl
@[simp] theorem writeDiff_xin (v : Int) : (writeDiff v s).xin = s.xin := rfl
@[simp] theorem writeDiff_xout (v : Int) : (writeDiff v s).xout = s.xout := rfl
@[simp] theorem writeDiff_bin (v : Int) : (writeDiff v s).bin = s.bin := rfl
@[simp] theorem writeDiff_bout (v : Int) : (writeDiff v s).bout = s.bout := rfl

/-! After writing `RL`. -/

@[simp] theorem writeRl_xb (l : List Pair) : (writeRl l s).xb = s.xb := rfl
@[simp] theorem writeRl_qb (l : List Pair) : (writeRl l s).qb = s.qb := rfl
@[simp] theorem writeRl_zq (l : List Pair) : (writeRl l s).zq = s.zq := rfl
@[simp] theorem writeRl_diff (l : List Pair) : (writeRl l s).diff = s.diff := rfl
@[simp] theorem writeRl_rl (l : List Pair) : (writeRl l s).rl = l := rfl
@[simp] theorem writeRl_predLum (l : List Pair) : (writeRl l s).predLum = s.predLum := rfl
@[simp] theorem writeRl_predChr (l : List Pair) : (writeRl l s).predChr = s.predChr := rfl
@[simp] theorem writeRl_vx (l : List Pair) : (writeRl l s).vx = s.vx := rfl
@[simp] theorem writeRl_vq (l : List Pair) : (writeRl l s).vq = s.vq := rfl
@[simp] theorem writeRl_vz0 (l : List Pair) : (writeRl l s).vz0 = s.vz0 := rfl
@[simp] theorem writeRl_vza (l : List Pair) : (writeRl l s).vza = s.vza := rfl
@[simp] theorem writeRl_vd (l : List Pair) : (writeRl l s).vd = s.vd := rfl
@[simp] theorem writeRl_vr (l : List Pair) : (writeRl l s).vr = true := rfl
@[simp] theorem writeRl_faulted (l : List Pair) : (writeRl l s).faulted = s.faulted := rfl
@[simp] theorem writeRl_err (l : List Pair) : (writeRl l s).err = s.err := rfl
@[simp] theorem writeRl_errSeg (l : List Pair) : (writeRl l s).errSeg = s.errSeg := rfl
@[simp] theorem writeRl_errInfo (l : List Pair) : (writeRl l s).errInfo = s.errInfo := rfl
@[simp] theorem writeRl_quality (l : List Pair) : (writeRl l s).quality = s.quality := rfl
@[simp] theorem writeRl_grey (l : List Pair) : (writeRl l s).grey = s.grey := rfl
@[simp] theorem writeRl_remBits (l : List Pair) : (writeRl l s).remBits = s.remBits := rfl
@[simp] theorem writeRl_cmdCnt (l : List Pair) : (writeRl l s).cmdCnt = s.cmdCnt := rfl
@[simp] theorem writeRl_mem (l : List Pair) : (writeRl l s).mem = s.mem := rfl
@[simp] theorem writeRl_xin (l : List Pair) : (writeRl l s).xin = s.xin := rfl
@[simp] theorem writeRl_xout (l : List Pair) : (writeRl l s).xout = s.xout := rfl
@[simp] theorem writeRl_bin (l : List Pair) : (writeRl l s).bin = s.bin := rfl
@[simp] theorem writeRl_bout (l : List Pair) : (writeRl l s).bout = s.bout := rfl

/-! After clearing the valid flags. -/

@[simp] theorem clearValid_xb : (clearValid s).xb = s.xb := rfl
@[simp] theorem clearValid_qb : (clearValid s).qb = s.qb := rfl
@[simp] theorem clearValid_zq : (clearValid s).zq = s.zq := rfl
@[simp] theorem clearValid_diff : (clearValid s).diff = s.diff := rfl
@[simp] theorem clearValid_rl : (clearValid s).rl = s.rl := rfl
@[simp] theorem clearValid_predLum : (clearValid s).predLum = s.predLum := rfl
@[simp] theorem clearValid_predChr : (clearValid s).predChr = s.predChr := rfl
@[simp] theorem clearValid_vx : (clearValid s).vx = false := rfl
@[simp] theorem clearValid_vq : (clearValid s).vq = false := rfl
@[simp] theorem clearValid_vz0 : (clearValid s).vz0 = false := rfl
@[simp] theorem clearValid_vza : (clearValid s).vza = false := rfl
@[simp] theorem clearValid_vd : (clearValid s).vd = false := rfl
@[simp] theorem clearValid_vr : (clearValid s).vr = false := rfl
@[simp] theorem clearValid_faulted : (clearValid s).faulted = s.faulted := rfl
@[simp] theorem clearValid_err : (clearValid s).err = s.err := rfl
@[simp] theorem clearValid_errSeg : (clearValid s).errSeg = s.errSeg := rfl
@[simp] theorem clearValid_errInfo : (clearValid s).errInfo = s.errInfo := rfl
@[simp] theorem clearValid_quality : (clearValid s).quality = s.quality := rfl
@[simp] theorem clearValid_grey : (clearValid s).grey = s.grey := rfl
@[simp] theorem clearValid_remBits : (clearValid s).remBits = s.remBits := rfl
@[simp] theorem clearValid_cmdCnt : (clearValid s).cmdCnt = s.cmdCnt := rfl
@[simp] theorem clearValid_mem : (clearValid s).mem = s.mem := rfl
@[simp] theorem clearValid_xin : (clearValid s).xin = s.xin := rfl
@[simp] theorem clearValid_xout : (clearValid s).xout = s.xout := rfl
@[simp] theorem clearValid_bin : (clearValid s).bin = s.bin := rfl
@[simp] theorem clearValid_bout : (clearValid s).bout = s.bout := rfl

/-! After counting a command. -/

@[simp] theorem countCommand_xb : (countCommand s).xb = s.xb := rfl
@[simp] theorem countCommand_qb : (countCommand s).qb = s.qb := rfl
@[simp] theorem countCommand_zq : (countCommand s).zq = s.zq := rfl
@[simp] theorem countCommand_diff : (countCommand s).diff = s.diff := rfl
@[simp] theorem countCommand_rl : (countCommand s).rl = s.rl := rfl
@[simp] theorem countCommand_predLum : (countCommand s).predLum = s.predLum := rfl
@[simp] theorem countCommand_predChr : (countCommand s).predChr = s.predChr := rfl
@[simp] theorem countCommand_vx : (countCommand s).vx = s.vx := rfl
@[simp] theorem countCommand_vq : (countCommand s).vq = s.vq := rfl
@[simp] theorem countCommand_vz0 : (countCommand s).vz0 = s.vz0 := rfl
@[simp] theorem countCommand_vza : (countCommand s).vza = s.vza := rfl
@[simp] theorem countCommand_vd : (countCommand s).vd = s.vd := rfl
@[simp] theorem countCommand_vr : (countCommand s).vr = s.vr := rfl
@[simp] theorem countCommand_faulted : (countCommand s).faulted = s.faulted := rfl
@[simp] theorem countCommand_err : (countCommand s).err = s.err := rfl
@[simp] theorem countCommand_errSeg : (countCommand s).errSeg = s.errSeg := rfl
@[simp] theorem countCommand_errInfo : (countCommand s).errInfo = s.errInfo := rfl
@[simp] theorem countCommand_quality : (countCommand s).quality = s.quality := rfl
@[simp] theorem countCommand_grey : (countCommand s).grey = s.grey := rfl
@[simp] theorem countCommand_remBits : (countCommand s).remBits = s.remBits := rfl
@[simp] theorem countCommand_cmdCnt : (countCommand s).cmdCnt = s.cmdCnt + 1 := rfl
@[simp] theorem countCommand_mem : (countCommand s).mem = s.mem := rfl
@[simp] theorem countCommand_xin : (countCommand s).xin = s.xin := rfl
@[simp] theorem countCommand_xout : (countCommand s).xout = s.xout := rfl
@[simp] theorem countCommand_bin : (countCommand s).bin = s.bin := rfl
@[simp] theorem countCommand_bout : (countCommand s).bout = s.bout := rfl

/-! After taking a fault. -/

@[simp] theorem takeFault_xb (r : Raise) : (takeFault r s).xb = s.xb := rfl
@[simp] theorem takeFault_qb (r : Raise) : (takeFault r s).qb = s.qb := rfl
@[simp] theorem takeFault_zq (r : Raise) : (takeFault r s).zq = s.zq := rfl
@[simp] theorem takeFault_diff (r : Raise) : (takeFault r s).diff = s.diff := rfl
@[simp] theorem takeFault_rl (r : Raise) : (takeFault r s).rl = s.rl := rfl
@[simp] theorem takeFault_predLum (r : Raise) : (takeFault r s).predLum = s.predLum := rfl
@[simp] theorem takeFault_predChr (r : Raise) : (takeFault r s).predChr = s.predChr := rfl
@[simp] theorem takeFault_vx (r : Raise) : (takeFault r s).vx = s.vx := rfl
@[simp] theorem takeFault_vq (r : Raise) : (takeFault r s).vq = s.vq := rfl
@[simp] theorem takeFault_vz0 (r : Raise) : (takeFault r s).vz0 = s.vz0 := rfl
@[simp] theorem takeFault_vza (r : Raise) : (takeFault r s).vza = s.vza := rfl
@[simp] theorem takeFault_vd (r : Raise) : (takeFault r s).vd = s.vd := rfl
@[simp] theorem takeFault_vr (r : Raise) : (takeFault r s).vr = s.vr := rfl
@[simp] theorem takeFault_faulted (r : Raise) : (takeFault r s).faulted = true := rfl
@[simp] theorem takeFault_err (r : Raise) : (takeFault r s).err = r.code := rfl
@[simp] theorem takeFault_errSeg (r : Raise) : (takeFault r s).errSeg = r.seg := rfl
@[simp] theorem takeFault_errInfo (r : Raise) : (takeFault r s).errInfo = r.info := rfl
@[simp] theorem takeFault_quality (r : Raise) : (takeFault r s).quality = s.quality := rfl
@[simp] theorem takeFault_grey (r : Raise) : (takeFault r s).grey = s.grey := rfl
@[simp] theorem takeFault_remBits (r : Raise) : (takeFault r s).remBits = s.remBits := rfl
@[simp] theorem takeFault_cmdCnt (r : Raise) : (takeFault r s).cmdCnt = s.cmdCnt := rfl
@[simp] theorem takeFault_mem (r : Raise) : (takeFault r s).mem = s.mem := rfl
@[simp] theorem takeFault_xin (r : Raise) : (takeFault r s).xin = s.xin := rfl
@[simp] theorem takeFault_xout (r : Raise) : (takeFault r s).xout = s.xout := rfl
@[simp] theorem takeFault_bin (r : Raise) : (takeFault r s).bin = s.bin := rfl
@[simp] theorem takeFault_bout (r : Raise) : (takeFault r s).bout = s.bout := rfl

/-! After `CLR`. -/

@[simp] theorem clearSession_xb : (clearSession s).xb = s.xb := rfl
@[simp] theorem clearSession_qb : (clearSession s).qb = s.qb := rfl
@[simp] theorem clearSession_zq : (clearSession s).zq = s.zq := rfl
@[simp] theorem clearSession_diff : (clearSession s).diff = s.diff := rfl
@[simp] theorem clearSession_rl : (clearSession s).rl = s.rl := rfl
@[simp] theorem clearSession_predLum : (clearSession s).predLum = 0 := rfl
@[simp] theorem clearSession_predChr : (clearSession s).predChr = 0 := rfl
@[simp] theorem clearSession_vx : (clearSession s).vx = false := rfl
@[simp] theorem clearSession_vq : (clearSession s).vq = false := rfl
@[simp] theorem clearSession_vz0 : (clearSession s).vz0 = false := rfl
@[simp] theorem clearSession_vza : (clearSession s).vza = false := rfl
@[simp] theorem clearSession_vd : (clearSession s).vd = false := rfl
@[simp] theorem clearSession_vr : (clearSession s).vr = false := rfl
@[simp] theorem clearSession_faulted : (clearSession s).faulted = false := rfl
@[simp] theorem clearSession_err : (clearSession s).err = .none := rfl
@[simp] theorem clearSession_errSeg : (clearSession s).errSeg = 0 := rfl
@[simp] theorem clearSession_errInfo : (clearSession s).errInfo = 0 := rfl
@[simp] theorem clearSession_quality : (clearSession s).quality = 0 := rfl
@[simp] theorem clearSession_grey : (clearSession s).grey = false := rfl
@[simp] theorem clearSession_remBits : (clearSession s).remBits = 0 := rfl
@[simp] theorem clearSession_cmdCnt : (clearSession s).cmdCnt = s.cmdCnt := rfl
@[simp] theorem clearSession_mem : (clearSession s).mem = Memory.empty := rfl
@[simp] theorem clearSession_xin : (clearSession s).xin = s.xin := rfl
@[simp] theorem clearSession_xout : (clearSession s).xout = s.xout := rfl
@[simp] theorem clearSession_bin : (clearSession s).bin = s.bin := rfl
@[simp] theorem clearSession_bout : (clearSession s).bout = s.bout := rfl

/-! After writing `PRED[L]`: the other layer's predictor and every other field stay. -/

@[simp] theorem setPred_xb (l : Layer) (v : Int) : (setPred l v s).xb = s.xb := by
  cases l <;> rfl
@[simp] theorem setPred_qb (l : Layer) (v : Int) : (setPred l v s).qb = s.qb := by
  cases l <;> rfl
@[simp] theorem setPred_zq (l : Layer) (v : Int) : (setPred l v s).zq = s.zq := by
  cases l <;> rfl
@[simp] theorem setPred_diff (l : Layer) (v : Int) : (setPred l v s).diff = s.diff := by
  cases l <;> rfl
@[simp] theorem setPred_rl (l : Layer) (v : Int) : (setPred l v s).rl = s.rl := by
  cases l <;> rfl
@[simp] theorem setPred_vx (l : Layer) (v : Int) : (setPred l v s).vx = s.vx := by
  cases l <;> rfl
@[simp] theorem setPred_vq (l : Layer) (v : Int) : (setPred l v s).vq = s.vq := by
  cases l <;> rfl
@[simp] theorem setPred_vz0 (l : Layer) (v : Int) : (setPred l v s).vz0 = s.vz0 := by
  cases l <;> rfl
@[simp] theorem setPred_vza (l : Layer) (v : Int) : (setPred l v s).vza = s.vza := by
  cases l <;> rfl
@[simp] theorem setPred_vd (l : Layer) (v : Int) : (setPred l v s).vd = s.vd := by
  cases l <;> rfl
@[simp] theorem setPred_vr (l : Layer) (v : Int) : (setPred l v s).vr = s.vr := by
  cases l <;> rfl
@[simp] theorem setPred_faulted (l : Layer) (v : Int) : (setPred l v s).faulted = s.faulted := by
  cases l <;> rfl
@[simp] theorem setPred_err (l : Layer) (v : Int) : (setPred l v s).err = s.err := by
  cases l <;> rfl
@[simp] theorem setPred_errSeg (l : Layer) (v : Int) : (setPred l v s).errSeg = s.errSeg := by
  cases l <;> rfl
@[simp] theorem setPred_errInfo (l : Layer) (v : Int) : (setPred l v s).errInfo = s.errInfo := by
  cases l <;> rfl
@[simp] theorem setPred_quality (l : Layer) (v : Int) : (setPred l v s).quality = s.quality := by
  cases l <;> rfl
@[simp] theorem setPred_grey (l : Layer) (v : Int) : (setPred l v s).grey = s.grey := by
  cases l <;> rfl
@[simp] theorem setPred_remBits (l : Layer) (v : Int) : (setPred l v s).remBits = s.remBits := by
  cases l <;> rfl
@[simp] theorem setPred_cmdCnt (l : Layer) (v : Int) : (setPred l v s).cmdCnt = s.cmdCnt := by
  cases l <;> rfl
@[simp] theorem setPred_mem (l : Layer) (v : Int) : (setPred l v s).mem = s.mem := by
  cases l <;> rfl
@[simp] theorem setPred_xin (l : Layer) (v : Int) : (setPred l v s).xin = s.xin := by
  cases l <;> rfl
@[simp] theorem setPred_xout (l : Layer) (v : Int) : (setPred l v s).xout = s.xout := by
  cases l <;> rfl
@[simp] theorem setPred_bin (l : Layer) (v : Int) : (setPred l v s).bin = s.bin := by
  cases l <;> rfl
@[simp] theorem setPred_bout (l : Layer) (v : Int) : (setPred l v s).bout = s.bout := by
  cases l <;> rfl
@[simp] theorem predOf_setPred (l : Layer) (v : Int) : (setPred l v s).predOf l = v := by
  cases l <;> rfl
@[simp] theorem setPred_lum_predChr (v : Int) : (setPred .lum v s).predChr = s.predChr := rfl
@[simp] theorem setPred_chr_predLum (v : Int) : (setPred .chr v s).predLum = s.predLum := rfl
@[simp] theorem setPred_lum_predLum (v : Int) : (setPred .lum v s).predLum = v := rfl
@[simp] theorem setPred_chr_predChr (v : Int) : (setPred .chr v s).predChr = v := rfl

/-! What a command reads of the state besides its registers, after the updates that keep it. -/

@[simp] theorem countCommand_predOf (l : Layer) : (countCommand s).predOf l = s.predOf l := by
  cases l <;> rfl
@[simp] theorem countCommand_layerBlocked (l : Layer) : (countCommand s).layerBlocked l = s.layerBlocked l := rfl
@[simp] theorem countCommand_nseg : (countCommand s).nseg = s.nseg := rfl
@[simp] theorem layerBlocked_lum : s.layerBlocked .lum = false := rfl
@[simp] theorem layerBlocked_chr : s.layerBlocked .chr = s.grey := by
  simp [CoreState.layerBlocked]

/-! The machine's state with its architectural part changed, and that part over another number type. -/

@[simp] theorem over_toCoreState (f : CoreState NUM → CoreState NUM) (s : State) :
    (s.over f).toCoreState = f s.toCoreState := rfl
@[simp] theorem over_params (f : CoreState NUM → CoreState NUM) (s : State) : (s.over f).params = s.params := rfl
@[simp] theorem over_cmdIn (f : CoreState NUM → CoreState NUM) (s : State) : (s.over f).cmdIn = s.cmdIn := rfl

variable {μ : Type} (g : ν → μ)

@[simp] theorem mapNum_xb : (s.mapNum g).xb = s.xb.map g := rfl
@[simp] theorem mapNum_xin : (s.mapNum g).xin = s.xin.map fun b => b.map g := rfl
@[simp] theorem mapNum_xout : (s.mapNum g).xout = s.xout.map fun b => b.map g := rfl
@[simp] theorem mapNum_qb : (s.mapNum g).qb = s.qb := rfl
@[simp] theorem mapNum_zq : (s.mapNum g).zq = s.zq := rfl
@[simp] theorem mapNum_diff : (s.mapNum g).diff = s.diff := rfl
@[simp] theorem mapNum_rl : (s.mapNum g).rl = s.rl := rfl
@[simp] theorem mapNum_predLum : (s.mapNum g).predLum = s.predLum := rfl
@[simp] theorem mapNum_predChr : (s.mapNum g).predChr = s.predChr := rfl
@[simp] theorem mapNum_vx : (s.mapNum g).vx = s.vx := rfl
@[simp] theorem mapNum_vq : (s.mapNum g).vq = s.vq := rfl
@[simp] theorem mapNum_vz0 : (s.mapNum g).vz0 = s.vz0 := rfl
@[simp] theorem mapNum_vza : (s.mapNum g).vza = s.vza := rfl
@[simp] theorem mapNum_vd : (s.mapNum g).vd = s.vd := rfl
@[simp] theorem mapNum_vr : (s.mapNum g).vr = s.vr := rfl
@[simp] theorem mapNum_faulted : (s.mapNum g).faulted = s.faulted := rfl
@[simp] theorem mapNum_err : (s.mapNum g).err = s.err := rfl
@[simp] theorem mapNum_errSeg : (s.mapNum g).errSeg = s.errSeg := rfl
@[simp] theorem mapNum_errInfo : (s.mapNum g).errInfo = s.errInfo := rfl
@[simp] theorem mapNum_quality : (s.mapNum g).quality = s.quality := rfl
@[simp] theorem mapNum_grey : (s.mapNum g).grey = s.grey := rfl
@[simp] theorem mapNum_remBits : (s.mapNum g).remBits = s.remBits := rfl
@[simp] theorem mapNum_cmdCnt : (s.mapNum g).cmdCnt = s.cmdCnt := rfl
@[simp] theorem mapNum_mem : (s.mapNum g).mem = s.mem := rfl
@[simp] theorem mapNum_bin : (s.mapNum g).bin = s.bin := rfl
@[simp] theorem mapNum_bout : (s.mapNum g).bout = s.bout := rfl
@[simp] theorem mapNum_predOf (l : Layer) : (s.mapNum g).predOf l = s.predOf l := by
  cases l <;> rfl
@[simp] theorem mapNum_layerBlocked (l : Layer) : (s.mapNum g).layerBlocked l = s.layerBlocked l := rfl
@[simp] theorem mapNum_nseg : (s.mapNum g).nseg = s.nseg := rfl

end Sys2Proof.Machine
end

