-- ==== Sys2Proof/Laws/Ops.lean ====
section
/-! SUPPORT. What the command step around a rule can do, said once. -/

namespace Sys2Proof.Machine

section

variable {ν : Type} (rule : CoreState ν → Effect ν) (s t : CoreState ν)

/-- While `FAULTED` a command only counts (60_exceptions R305). -/
theorem commandStep_faulted (h : s.faulted = true) : commandStep rule s = countCommand s := by
  simp [commandStep, h]

/-- A rule that completes gives the next state. -/
theorem commandStep_ok (h : s.faulted = false) (hr : rule (countCommand s) = .ok t) : commandStep rule s = t := by
  simp [commandStep, h, hr]

/-- A rule that raises takes the fault, on the counted state (60_exceptions R304). -/
theorem commandStep_error (r : Raise) (h : s.faulted = false) (hr : rule (countCommand s) = .error r) :
    commandStep rule s = takeFault r (countCommand s) := by
  simp [commandStep, h, hr]

/-- Everything the command step can do. -/
theorem commandStep_cases :
    (s.faulted = true ∧ commandStep rule s = countCommand s) ∨
      (s.faulted = false ∧ rule (countCommand s) = .ok (commandStep rule s)) ∨
      (s.faulted = false ∧ ∃ r, rule (countCommand s) = .error r ∧
        commandStep rule s = takeFault r (countCommand s)) := by
  cases hf : s.faulted with
  | true => exact .inl ⟨rfl, commandStep_faulted rule s hf⟩
  | false =>
    cases hr : rule (countCommand s) with
    | ok u => exact .inr (.inl ⟨rfl, by rw [commandStep_ok rule s u hf hr]⟩)
    | error r => exact .inr (.inr ⟨rfl, r, rfl, commandStep_error rule s r hf hr⟩)

/-- Within the limit the check passes. -/
@[simp] theorem checkLimit_true (c : Limit) : checkLimit c true s = .ok s := rfl

/-- Beyond it the limit's fault is raised. -/
@[simp] theorem checkLimit_false (c : Limit) : checkLimit c false s = .error (limitFault c s.cmdCnt) := rfl

/-- A check that passes leaves the state as it was written. -/
theorem checkLimit_eq_ok (c : Limit) (b : Bool) : checkLimit c b s = .ok t ↔ b = true ∧ s = t := by
  cases b <;> simp

/-- A check that fails raises the limit's fault. -/
theorem checkLimit_eq_error (c : Limit) (b : Bool) (r : Raise) :
    checkLimit c b s = .error r ↔ b = false ∧ r = limitFault c s.cmdCnt := by
  cases b <;> simp [eq_comm]

/-- The code of a limit's fault is a fault code. -/
theorem limitFault_code_ne_none (c : Limit) (n : Nat) : (limitFault c n).code ≠ .none := by
  have : ∀ k : Fin 9, errOfIndex k ≠ .none := by decide
  exact this _

end

/-! With unbounded registers and buffers, the defaults, no limit is ever reached (10_state R30, 41_quantizer R150). -/

@[simp] theorem Params.fits_unbounded {p : Params} (h : p.intW = none) (v : Int) : p.fits v = true := by
  simp [Params.fits, h]

@[simp] theorem Params.fitsAll_unbounded {p : Params} (h : p.intW = none) (vs : List Int) : p.fitsAll vs = true := by
  simp [Params.fitsAll, h]

@[simp] theorem Params.holds_unbounded {p : Params} (h : p.segCap = none) (n : Nat) : p.holds n = true := by
  simp [Params.holds, h]

/-- All fit when each does. -/
theorem Params.fitsAll_iff (p : Params) (vs : List Int) : p.fitsAll vs = true ↔ ∀ v ∈ vs, p.fits v = true := by
  cases h : p.intW <;> simp [Params.fitsAll, Params.fits, h]

/-- Zero fits every register. -/
theorem Params.fits_zero (p : Params) : p.fits 0 = true := by
  cases h : p.intW <;> simp [Params.fits, h]

/-! The machine's command step. -/

/-- A command answers the state its step leaves; the parameters and the command port stay. -/
theorem runCommand_eq (rule : CoreState NUM → Effect NUM) (s : State) :
    runCommand rule s = .next { s with toCoreState := commandStep rule s.toCoreState } := rfl

/-- While `FAULTED` a command only counts (60_exceptions R305). -/
theorem runCommand_faulted (rule : CoreState NUM → Effect NUM) (s : State) (h : s.faulted = true) :
    runCommand rule s = .next (s.over countCommand) := by
  rw [runCommand, State.over, commandStep_faulted _ _ h, State.over]

/-- A rule that completes gives the next state. -/
theorem runCommand_ok (rule : CoreState NUM → Effect NUM) (s : State) (t : CoreState NUM) (h : s.faulted = false)
    (hr : rule (countCommand s.toCoreState) = .ok t) : runCommand rule s = .next { s with toCoreState := t } := by
  rw [runCommand_eq, commandStep_ok _ _ _ h hr]

/-- A rule that raises takes the fault, on the counted state (60_exceptions R304). -/
theorem runCommand_error (rule : CoreState NUM → Effect NUM) (s : State) (r : Raise) (h : s.faulted = false)
    (hr : rule (countCommand s.toCoreState) = .error r) :
    runCommand rule s = .next (s.over fun c => takeFault r (countCommand c)) := by
  rw [runCommand_eq, commandStep_error _ _ _ h hr, State.over]

/-- Everything a command can do in the machine. -/
theorem runCommand_cases (rule : CoreState NUM → Effect NUM) (s t : State) (h : runCommand rule s = .next t) :
    t.params = s.params ∧ t.cmdIn = s.cmdIn ∧
      ((s.faulted = true ∧ t.toCoreState = countCommand s.toCoreState) ∨
        (s.faulted = false ∧ rule (countCommand s.toCoreState) = .ok t.toCoreState) ∨
        (s.faulted = false ∧ ∃ r, rule (countCommand s.toCoreState) = .error r ∧
          t.toCoreState = takeFault r (countCommand s.toCoreState))) := by
  cases h
  exact ⟨rfl, rfl, commandStep_cases rule s.toCoreState⟩

section

variable {ν : Type}

@[simp] theorem andThen_ok (s : CoreState ν) (rule : CoreState ν → Effect ν) : andThen (.ok s) rule = rule s := rfl

@[simp] theorem andThen_error (r : Raise) (rule : CoreState ν → Effect ν) : andThen (.error r) rule = .error r := rfl

/-- Two rules in a row complete when the first does and the second does on what it left. -/
theorem andThen_eq_ok (e : Effect ν) (rule : CoreState ν → Effect ν) (t : CoreState ν) :
    andThen e rule = .ok t ↔ ∃ s, e = .ok s ∧ rule s = .ok t := by
  cases e <;> simp

/-- Two rules in a row raise what the first raises, or what the second raises after it. -/
theorem andThen_eq_error (e : Effect ν) (rule : CoreState ν → Effect ν) (r : Raise) :
    andThen e rule = .error r ↔ e = .error r ∨ ∃ s, e = .ok s ∧ rule s = .error r := by
  cases e <;> simp

end

end Sys2Proof.Machine
end

