-- ==== Sys2Proof/Laws/Exec.lean ====
section
/-! SUPPORT. The machine is the CORE's function at the parameters its state carries and the exact numbers; and what `exec` and
`step` can do. -/

namespace Sys2Proof.Machine

/-- `exec` is `coreExec` at the state's parameters and the exact numbers; the parameters and the command port stay. -/
theorem exec_eq_coreExec (i : Instr) (s : State) :
    exec i s = .next { s with toCoreState := coreExec s.params exactSystem i s.toCoreState } := by
  cases i <;> rfl

/-- What the CORE does with a symbol. -/
theorem coreExec_symbol {ν : Type} {p : Params} {n : NumSystem ν} {i : Instr} {y : Symbol} (h : i.symbol? = some y)
    (s : CoreState ν) : coreExec p n i s = commandStep (symbolRule p y) s := by
  rw [coreExec, h]

/-- What the CORE does with a command that has a rule. -/
theorem coreExec_command {ν : Type} {p : Params} {n : NumSystem ν} {i : Instr} {rule : CoreState ν → Effect ν}
    (h : i.symbol? = none) (hr : commandRule? p n i = some rule) (s : CoreState ν) :
    coreExec p n i s = commandStep rule s := by
  rw [coreExec, h, hr]

/-- What the CORE does with `CLR`. -/
theorem coreExec_clr {ν : Type} (p : Params) (n : NumSystem ν) (s : CoreState ν) :
    coreExec p n .clr s = clearSession (countCommand s) := rfl

/-- A symbol's meaning is the command step around its rule. -/
theorem exec_symbol {i : Instr} {y : Symbol} (h : i.symbol? = some y) (s : State) :
    exec i s = runCommand (symbolRule s.params y) s := by
  rw [exec_eq_coreExec, coreExec_symbol h, runCommand_eq]

theorem exec_clr (s : State) : exec .clr s = .next (s.over fun t => clearSession (countCommand t)) := rfl

/-- Every instruction but `CLR` is a symbol or a command with a rule. -/
theorem rule_of_ne_clr {ν : Type} (p : Params) (n : NumSystem ν) (i : Instr) (h : i ≠ .clr) :
    ∃ rule, coreExec p n i = commandStep rule ∧
      (commandRule? p n i = some rule ∨ ∃ y, i.symbol? = some y ∧ rule = symbolRule p y) := by
  cases hy : i.symbol? with
  | some y => exact ⟨symbolRule p y, funext fun s => coreExec_symbol hy s, .inr ⟨y, rfl, rfl⟩⟩
  | none =>
    cases hr : commandRule? p n i with
    | some rule => exact ⟨rule, funext fun s => coreExec_command hy hr s, .inl rfl⟩
    | none =>
      exfalso
      have : ∀ j : Instr, j.symbol? = none → commandRule? p n j = none → j = .clr := by
        intro j hj hc
        cases j <;> first | rfl | (cases hj; done) | cases hc
      exact h (this i hy hr)

/-- Every word on the port is run by `coreStep`. -/
theorem step_eq_coreStep {s : State} {w : Word} {rest : List Word} (h : s.cmdIn = w :: rest) :
    step s = .next { s with toCoreState := coreStep s.params exactSystem w s.toCoreState, cmdIn := rest } := by
  cases hd : decodeWord w with
  | some i => simp [step, fetch, h, hd, coreStep, exec_eq_coreExec]
  | none => simp [step, fetch, h, hd, coreStep, reservedWord, runCommand_eq]

/-- Everything a step can do: nothing, the decoded instruction, or a reserved word. -/
theorem step_cases (s : State) :
    (s.cmdIn = [] ∧ step s = .next s) ∨
      (∃ w rest, s.cmdIn = w :: rest ∧
        ((∃ i, decodeWord w = some i ∧ step s = exec i { s with cmdIn := rest }) ∨
          (decodeWord w = none ∧ step s = reservedWord w { s with cmdIn := rest }))) := by
  cases h : s.cmdIn with
  | nil => exact .inl ⟨rfl, by simp [step, fetch, h]⟩
  | cons w rest =>
    refine .inr ⟨w, rest, rfl, ?_⟩
    cases hd : decodeWord w with
    | some i => exact .inl ⟨i, rfl, by simp [step, fetch, h, hd]⟩
    | none => exact .inr ⟨rfl, by simp [step, fetch, h, hd]⟩

end Sys2Proof.Machine
end

