-- ==== Sys2Proof/Laws/Memory.lean ====
section
/-! SUPPORT. The segment memory: every operation keeps its form, and what a read sees after a write. -/

namespace Sys2Proof.Machine

theorem Memory.wf_iff (m : Memory) : m.wf = true ↔ ∀ k : Fin 4, m.cur[k] ≤ m.seg[k].length := by
  simp [Memory.wf]

@[simp] theorem Memory.append_cur (m : Memory) (k : Fin 4) (b : Bits) : (m.append k b).cur = m.cur := rfl

@[simp] theorem Memory.setCur_seg (m : Memory) (k : Fin 4) (p : Nat) : (m.setCur k p).seg = m.seg := rfl

/-- An append changes the segment it is to, and no other. -/
theorem Memory.append_seg (m : Memory) (k j : Fin 4) (b : Bits) :
    (m.append k b).seg[j] = if k = j then m.seg[k] ++ b else m.seg[j] := by
  simp [Memory.append, Vector.getElem_set, Fin.ext_iff]

/-- A cursor write changes the cursor it is to, and no other. -/
theorem Memory.setCur_cur (m : Memory) (k j : Fin 4) (p : Nat) :
    (m.setCur k p).cur[j] = if k = j then p else m.cur[j] := by
  simp [Memory.setCur, Vector.getElem_set, Fin.ext_iff]

/-- After an append, a bit below the old end of the segment reads as before, and so does every bit of another segment. -/
theorem Memory.bit?_append_old (m : Memory) (k j : Fin 4) (b : Bits) (p : Nat) (h : k = j → p < m.len k) :
    (m.append k b).bit? j p = m.bit? j p := by
  rw [Memory.bit?, Memory.append_seg]
  split
  · next e => subst e; rw [Memory.bit?, List.getElem?_append_left (h rfl)]
  · rfl

/-- After an append, the appended bits are read from the old end of the segment on. -/
theorem Memory.bit?_append_new (m : Memory) (k : Fin 4) (b : Bits) (i : Nat) :
    (m.append k b).bit? k (m.len k + i) = b[i]? := by
  rw [Memory.bit?, Memory.append_seg, if_pos rfl, Memory.len, List.getElem?_append_right (Nat.le_add_right _ _)]
  simp

/-- The length after an append. -/
theorem Memory.len_append (m : Memory) (k : Fin 4) (b : Bits) : (m.append k b).len k = m.len k + b.length := by
  simp [Memory.len, Memory.append]

/-- What the decoder can still read after an append. -/
theorem Memory.rest_append (m : Memory) (k : Fin 4) (b : Bits) (h : m.wf = true) :
    (m.append k b).rest k = m.rest k ++ b := by
  have := (m.wf_iff.mp h) k
  simp only [Memory.rest, Memory.append_seg, Memory.append_cur, if_true]
  rw [List.drop_append_of_le_length this]

theorem Memory.wf_empty : Memory.empty.wf = true := by decide

theorem Memory.wf_load (seg : Vector Bits 4) : (Memory.load seg).wf = true := by
  simp [Memory.wf, Memory.load]

theorem Memory.wf_append (m : Memory) (k : Fin 4) (b : Bits) (h : m.wf = true) : (m.append k b).wf = true := by
  rw [Memory.wf_iff] at *
  intro j
  have := h j
  rw [Memory.append_seg, Memory.append_cur]
  split
  · next e => subst e; rw [List.length_append]; omega
  · exact this

theorem Memory.wf_setCur (m : Memory) (k : Fin 4) (p : Nat) (h : m.wf = true) (hp : p ≤ m.len k) :
    (m.setCur k p).wf = true := by
  rw [Memory.wf_iff] at *
  intro j
  rw [Memory.setCur_cur, Memory.setCur_seg]
  split
  · next e => subst e; exact hp
  · exact h j

/-- The cursor may move by as many bits as are left. -/
theorem Memory.wf_advance (m : Memory) (k : Fin 4) (n : Nat) (h : m.wf = true) (hn : n ≤ (m.rest k).length) :
    (m.setCur k (m.cur[k] + n)).wf = true := by
  refine Memory.wf_setCur m k _ h ?_
  have := (m.wf_iff.mp h) k
  simp only [Memory.rest, List.length_drop] at hn
  simp only [Memory.len]
  omega

/-- The state after reset has a segment memory of that form. -/
theorem State.reset_mem_wf : State.reset.mem.wf = true := Memory.wf_empty

end Sys2Proof.Machine
end

