-- ==== Sys2Proof/Laws/Huffman.lean ====
section
/-! SUPPORT. What the symbol reader and the loop of `HDAC` can answer, said once. -/

namespace Sys2Proof.Machine

open Sys2Proof

/-- Bit `n` of the set of lengths says whether a codeword has that length. -/
theorem testBit_lenSet (cs : List Code) (n : Nat) : (lenSet cs).testBit n = true ↔ ∃ c ∈ cs, c.len = n := by
  induction cs with
  | nil => simp [lenSet]
  | cons c t ih =>
    have : lenSet (c :: t) = (1 <<< c.len) ||| lenSet t := rfl
    rw [this, Nat.testBit_or, Bool.or_eq_true, ih, Nat.one_shiftLeft, Nat.testBit_two_pow]
    simp

/-- The listed lengths are exactly those of the codewords (45_huffman R193). -/
theorem mem_lensOf (cs : List Code) (n : Nat) : n ∈ lensOf cs ↔ ∃ c ∈ cs, c.len = n := by
  rw [lensOf, List.mem_filter, testBit_lenSet, List.mem_range, and_iff_right_iff_imp]
  intro h
  have hge := Nat.ge_two_pow_of_testBit ((testBit_lenSet cs n).mpr h)
  exact Nat.lt_succ_of_le ((Nat.le_log2 (by have := Nat.two_pow_pos n; omega)).mpr hge)

/-- They are listed in increasing order (45_huffman R193). -/
theorem lensOf_pairwise (cs : List Code) : (lensOf cs).Pairwise (· < ·) :=
  List.pairwise_lt_range.filter _

/-- What a valid table is, as propositions (45_huffman R192, R193). -/
theorem HTable.valid_iff (ty : ValType) (t : HTable) :
    t.valid ty = true ↔
      (∀ k ∈ ValType.keys ty, (t.code? k.1 k.2).isSome = true) ∧
      (∀ c ∈ t.codes, ValType.hasKey ty c.run c.size = true ∧ c.word < 2 ^ c.len) ∧
      codesApart t.codes = true ∧ t.lens = lensOf t.codes := by
  simp only [HTable.valid, Bool.and_eq_true, List.all_eq_true, decide_eq_true_eq, Nat.blt_eq]
  tauto

/-- No two entries of a table without clashes are different and clash. -/
theorem codesApart_iff (cs : List Code) : codesApart cs = true ↔ cs.Pairwise fun c d => c.clash d = false := by
  induction cs with
  | nil => simp [codesApart]
  | cons c t ih => simp [codesApart, ih]

/-- An entry found by its codeword is in the table and has that codeword. -/
theorem entry?_some {t : HTable} {len w : Nat} {c : Code} (h : t.entry? len w = some c) :
    c ∈ t.codes ∧ c.len = len ∧ c.word = w := by
  have hp := List.find?_some h
  simp only [Bool.and_eq_true] at hp
  exact ⟨List.mem_of_find?_eq_some h, Nat.eq_of_beq_eq_true hp.1, Nat.eq_of_beq_eq_true hp.2⟩

/-- An entry found by its key is in the table and has that key. -/
theorem code?_some {t : HTable} {run size : Nat} {c : Code} (h : t.code? run size = some c) :
    c ∈ t.codes ∧ c.run = run ∧ c.size = size := by
  have hp := List.find?_some h
  simp only [Bool.and_eq_true] at hp
  exact ⟨List.mem_of_find?_eq_some h, Nat.eq_of_beq_eq_true hp.1, Nat.eq_of_beq_eq_true hp.2⟩

/-- A codeword that is matched is an entry of the table, and no longer than the bits that are left. -/
theorem matchCode_ok {t : HTable} {rest : Bits} {ns : List Nat} {c : Code} (h : matchCode t rest ns = .ok c) :
    c ∈ t.codes ∧ c.len ≤ rest.length ∧ c.len ∈ ns ∧ valOf (rest.take c.len) = c.word := by
  induction ns with
  | nil => simp [matchCode] at h
  | cons n ns ih =>
    simp only [matchCode] at h
    split at h
    · cases h
    · next hl =>
      split at h
      · next d hd =>
        cases h
        obtain ⟨hm, hl', hw⟩ := entry?_some hd
        simp only [List.length_take, not_lt] at hl
        exact ⟨hm, by omega, by simp [hl'], by rw [hl', hw]⟩
      · obtain ⟨a, b, c, d⟩ := ih h
        exact ⟨a, b, List.mem_cons_of_mem _ c, d⟩

/-- A symbol that is read is of the table asked for, its key is in the table, and its bits are all there. -/
theorem readSymbol_ok {h : HTables} {ty : ValType} {l : Layer} {rest : Bits} {y : Symbol} {n : Nat}
    (hr : readSymbol h ty l rest = .ok (y, n)) :
    y.type = ty ∧ y.layer = l ∧ n ≤ rest.length ∧
      ∃ c ∈ (h.get ty l).codes, y.run = c.run ∧ y.size = c.size ∧ n = c.len + c.size ∧
        y.lit = valOf (window rest c.len c.size) := by
  simp only [readSymbol] at hr
  split at hr
  · cases hr
  · next c hc =>
    obtain ⟨hm, hl, -, -⟩ := matchCode_ok hc
    split at hr
    · cases hr
    · next hw =>
      cases hr
      simp only [window, List.length_take, List.length_drop, not_lt] at hw
      exact ⟨rfl, rfl, by omega, c, hm, rfl, rfl, rfl, rfl⟩

/-- A symbol fault is one of the two decode faults, with the position and the segment. -/
theorem symbolRaise_cases (e : SymbolFault) (p : Nat) (k : Fin 4) :
    symbolRaise e p k = ⟨.underrun, p, k⟩ ∨ symbolRaise e p k = ⟨.noMatch, p, k⟩ := by
  cases e <;> simp [symbolRaise]

/-- What one turn of the loop of `HDAC` can answer: the end of the block, the next turn, or the count fault. -/
theorem takeAc_cases (y : Symbol) (n : Nat) (go : Bits → Nat → List Pair → Nat → Except Raise (List Pair × Nat))
    (rest : Bits) (p : Nat) (out : List Pair) (cnt : Nat) :
    (pairOf y = eob ∧ takeAc y n go rest p out cnt = .ok (out ++ [eob], p + n)) ∨
      (pairOf y ≠ eob ∧ 63 < cnt + y.run + 1 ∧
        takeAc y n go rest p out cnt = .error ⟨.rleFormat, (cnt + y.run + 1 : Nat), 0⟩) ∨
      (pairOf y ≠ eob ∧ cnt + y.run + 1 ≤ 63 ∧
        takeAc y n go rest p out cnt = go (rest.drop n) (p + n) (out ++ [pairOf y]) (cnt + y.run + 1)) := by
  have hr : (pairOf y).run = y.run := rfl
  by_cases h : pairOf y = eob
  · exact .inl ⟨h, by simp [takeAc, h]⟩
  · by_cases hc : 63 < cnt + y.run + 1
    · exact .inr (.inl ⟨h, hc, by simp [takeAc, h, hr, hc]⟩)
    · exact .inr (.inr ⟨h, by omega, by simp [takeAc, h, hr, hc]⟩)

/-- A list of pairs can be coded exactly when each of its pairs can. -/
theorem encPairs_ok (h : HTables) (l : Layer) (ps : List Pair) (n : Nat) (hs : ∀ p ∈ ps, (encAc h p l).isSome = true) :
    encPairs h l n ps = .ok (ps.flatMap fun p => (encAc h p l).getD []) := by
  induction ps generalizing n with
  | nil => rfl
  | cons p t ih =>
    obtain ⟨b, hb⟩ := Option.isSome_iff_exists.mp (hs p List.mem_cons_self)
    simp [encPairs, hb, ih (n + 1) fun q hq => hs q (List.mem_cons_of_mem _ hq)]

/-- The index of the first pair that cannot be coded. -/
theorem encPairs_error (h : HTables) (l : Layer) (before : List Pair) (p : Pair) (after : List Pair) (n : Nat)
    (hs : ∀ q ∈ before, (encAc h q l).isSome = true) (hp : encAc h p l = none) :
    encPairs h l n (before ++ p :: after) = .error (n + before.length) := by
  induction before generalizing n with
  | nil => simp [encPairs, hp]
  | cons q t ih =>
    obtain ⟨b, hb⟩ := Option.isSome_iff_exists.mp (hs q List.mem_cons_self)
    simp [encPairs, hb, ih (n + 1) fun x hx => hs x (List.mem_cons_of_mem _ hx)]
    omega

end Sys2Proof.Machine
end

