-- ==== Sys2Proof/Laws/PerInstr.lean ====
section
/-! SUPPORT. The family of statements made per instruction: the length of every encoding (20_memory R68, 30_encoding R90), in the
default tables. -/

namespace Sys2Proof.Laws

open Sys2Proof.Machine

/-- A command has 16 bits; a bit-stream symbol has 2 to 26 (20_memory R68). -/
def SymbolLength.Statement (i : Instr) : Prop :=
  i.wellFormed = true →
    2 ≤ (encode HTables.default i).length ∧ (encode HTables.default i).length ≤ 26 ∧
      (i.word?.isSome → (encode HTables.default i).length = 16)

theorem length_binOf (n k : Nat) : (binOf n k).length = n := by
  induction n with
  | zero => rfl
  | succ n ih => simp [binOf, ih]

/-- The length of a symbol's bits: its codeword's and its literal's. -/
def symbolLength? (ty : ValType) (l : Layer) (run size : Nat) : Option Nat :=
  ((HTables.default.get ty l).code? run size).map fun c => c.len + size

theorem SymbolLength.ofSymbol {i : Instr} (y : Symbol) (n : Nat) (hw : i.word? = none) (h : i.symbol? = some y)
    (hn : symbolLength? y.type y.layer y.run y.size = some n) (h2 : 2 ≤ n) (h26 : n ≤ 26) : SymbolLength.Statement i := by
  intro _
  obtain ⟨c, hc, rfl⟩ := Option.map_eq_some_iff.mp hn
  have : (encode HTables.default i).length = c.len + y.size := by
    simp [encode, hw, h, Symbol.bits, hc, Code.bits, length_binOf]
  rw [this, hw]
  exact ⟨h2, h26, by simp⟩

theorem SymbolLength.ofWord {i : Instr} {w : Word} (h : i.word? = some w) : SymbolLength.Statement i := by
  intro _
  simp [encode, h, length_binOf]

theorem SymbolLength.nop : SymbolLength.Statement .nop :=
  SymbolLength.ofWord rfl

theorem SymbolLength.clr : SymbolLength.Statement .clr :=
  SymbolLength.ofWord rfl

theorem SymbolLength.cfgq (q : Nat) : SymbolLength.Statement (.cfgq q) :=
  SymbolLength.ofWord rfl

theorem SymbolLength.cfgg (g : Bool) : SymbolLength.Statement (.cfgg g) :=
  SymbolLength.ofWord rfl

theorem SymbolLength.ldx : SymbolLength.Statement .ldx :=
  SymbolLength.ofWord rfl

theorem SymbolLength.stx : SymbolLength.Statement .stx :=
  SymbolLength.ofWord rfl

theorem SymbolLength.fdct : SymbolLength.Statement .fdct :=
  SymbolLength.ofWord rfl

theorem SymbolLength.idct : SymbolLength.Statement .idct :=
  SymbolLength.ofWord rfl

theorem SymbolLength.qnt (L : Layer) : SymbolLength.Statement (.qnt L) :=
  SymbolLength.ofWord rfl

theorem SymbolLength.dqt (L : Layer) : SymbolLength.Statement (.dqt L) :=
  SymbolLength.ofWord rfl

theorem SymbolLength.zz : SymbolLength.Statement .zz :=
  SymbolLength.ofWord rfl

theorem SymbolLength.izz : SymbolLength.Statement .izz :=
  SymbolLength.ofWord rfl

theorem SymbolLength.dce (L : Layer) : SymbolLength.Statement (.dce L) :=
  SymbolLength.ofWord rfl

theorem SymbolLength.dcd (L : Layer) : SymbolLength.Statement (.dcd L) :=
  SymbolLength.ofWord rfl

theorem SymbolLength.rle : SymbolLength.Statement .rle :=
  SymbolLength.ofWord rfl

theorem SymbolLength.rld : SymbolLength.Statement .rld :=
  SymbolLength.ofWord rfl

theorem SymbolLength.hedc (L : Layer) : SymbolLength.Statement (.hedc L) :=
  SymbolLength.ofWord rfl

theorem SymbolLength.heac (L : Layer) : SymbolLength.Statement (.heac L) :=
  SymbolLength.ofWord rfl

theorem SymbolLength.hddc (L : Layer) : SymbolLength.Statement (.hddc L) :=
  SymbolLength.ofWord rfl

theorem SymbolLength.hdac (L : Layer) : SymbolLength.Statement (.hdac L) :=
  SymbolLength.ofWord rfl

theorem SymbolLength.pack : SymbolLength.Statement .pack :=
  SymbolLength.ofWord rfl

theorem SymbolLength.slice : SymbolLength.Statement .slice :=
  SymbolLength.ofWord rfl

theorem SymbolLength.encblk (L : Layer) : SymbolLength.Statement (.encblk L) :=
  SymbolLength.ofWord rfl

theorem SymbolLength.decblk (L : Layer) : SymbolLength.Statement (.decblk L) :=
  SymbolLength.ofWord rfl

theorem SymbolLength.dcLumS0 : SymbolLength.Statement .dcLumS0 :=
  SymbolLength.ofSymbol ⟨.dc, .lum, 0, 0, 0⟩ 2 rfl rfl rfl (by decide) (by decide)

theorem SymbolLength.dcLumS1 (v : BitVec 1) : SymbolLength.Statement (.dcLumS1 v) :=
  SymbolLength.ofSymbol ⟨.dc, .lum, 0, 1, v.toNat⟩ 4 rfl rfl rfl (by decide) (by decide)

theorem SymbolLength.dcLumS2 (v : BitVec 2) : SymbolLength.Statement (.dcLumS2 v) :=
  SymbolLength.ofSymbol ⟨.dc, .lum, 0, 2, v.toNat⟩ 5 rfl rfl rfl (by decide) (by decide)

theorem SymbolLength.dcLumS3 (v : BitVec 3) : SymbolLength.Statement (.dcLumS3 v) :=
  SymbolLength.ofSymbol ⟨.dc, .lum, 0, 3, v.toNat⟩ 6 rfl rfl rfl (by decide) (by decide)

theorem SymbolLength.dcLumS4 (v : BitVec 4) : SymbolLength.Statement (.dcLumS4 v) :=
  SymbolLength.ofSymbol ⟨.dc, .lum, 0, 4, v.toNat⟩ 7 rfl rfl rfl (by decide) (by decide)

theorem SymbolLength.dcLumS5 (v : BitVec 5) : SymbolLength.Statement (.dcLumS5 v) :=
  SymbolLength.ofSymbol ⟨.dc, .lum, 0, 5, v.toNat⟩ 8 rfl rfl rfl (by decide) (by decide)

theorem SymbolLength.dcLumS6 (v : BitVec 6) : SymbolLength.Statement (.dcLumS6 v) :=
  SymbolLength.ofSymbol ⟨.dc, .lum, 0, 6, v.toNat⟩ 10 rfl rfl rfl (by decide) (by decide)

theorem SymbolLength.dcLumS7 (v : BitVec 7) : SymbolLength.Statement (.dcLumS7 v) :=
  SymbolLength.ofSymbol ⟨.dc, .lum, 0, 7, v.toNat⟩ 12 rfl rfl rfl (by decide) (by decide)

theorem SymbolLength.dcLumS8 (v : BitVec 8) : SymbolLength.Statement (.dcLumS8 v) :=
  SymbolLength.ofSymbol ⟨.dc, .lum, 0, 8, v.toNat⟩ 14 rfl rfl rfl (by decide) (by decide)

theorem SymbolLength.dcLumS9 (v : BitVec 9) : SymbolLength.Statement (.dcLumS9 v) :=
  SymbolLength.ofSymbol ⟨.dc, .lum, 0, 9, v.toNat⟩ 16 rfl rfl rfl (by decide) (by decide)

theorem SymbolLength.dcLumS10 (v : BitVec 10) : SymbolLength.Statement (.dcLumS10 v) :=
  SymbolLength.ofSymbol ⟨.dc, .lum, 0, 10, v.toNat⟩ 18 rfl rfl rfl (by decide) (by decide)

theorem SymbolLength.dcLumS11 (v : BitVec 11) : SymbolLength.Statement (.dcLumS11 v) :=
  SymbolLength.ofSymbol ⟨.dc, .lum, 0, 11, v.toNat⟩ 20 rfl rfl rfl (by decide) (by decide)

theorem SymbolLength.dcChrS0 : SymbolLength.Statement .dcChrS0 :=
  SymbolLength.ofSymbol ⟨.dc, .chr, 0, 0, 0⟩ 2 rfl rfl rfl (by decide) (by decide)

theorem SymbolLength.dcChrS1 (v : BitVec 1) : SymbolLength.Statement (.dcChrS1 v) :=
  SymbolLength.ofSymbol ⟨.dc, .chr, 0, 1, v.toNat⟩ 3 rfl rfl rfl (by decide) (by decide)

theorem SymbolLength.dcChrS2 (v : BitVec 2) : SymbolLength.Statement (.dcChrS2 v) :=
  SymbolLength.ofSymbol ⟨.dc, .chr, 0, 2, v.toNat⟩ 4 rfl rfl rfl (by decide) (by decide)

theorem SymbolLength.dcChrS3 (v : BitVec 3) : SymbolLength.Statement (.dcChrS3 v) :=
  SymbolLength.ofSymbol ⟨.dc, .chr, 0, 3, v.toNat⟩ 6 rfl rfl rfl (by decide) (by decide)

theorem SymbolLength.dcChrS4 (v : BitVec 4) : SymbolLength.Statement (.dcChrS4 v) :=
  SymbolLength.ofSymbol ⟨.dc, .chr, 0, 4, v.toNat⟩ 8 rfl rfl rfl (by decide) (by decide)

theorem SymbolLength.dcChrS5 (v : BitVec 5) : SymbolLength.Statement (.dcChrS5 v) :=
  SymbolLength.ofSymbol ⟨.dc, .chr, 0, 5, v.toNat⟩ 10 rfl rfl rfl (by decide) (by decide)

theorem SymbolLength.dcChrS6 (v : BitVec 6) : SymbolLength.Statement (.dcChrS6 v) :=
  SymbolLength.ofSymbol ⟨.dc, .chr, 0, 6, v.toNat⟩ 12 rfl rfl rfl (by decide) (by decide)

theorem SymbolLength.dcChrS7 (v : BitVec 7) : SymbolLength.Statement (.dcChrS7 v) :=
  SymbolLength.ofSymbol ⟨.dc, .chr, 0, 7, v.toNat⟩ 14 rfl rfl rfl (by decide) (by decide)

theorem SymbolLength.dcChrS8 (v : BitVec 8) : SymbolLength.Statement (.dcChrS8 v) :=
  SymbolLength.ofSymbol ⟨.dc, .chr, 0, 8, v.toNat⟩ 16 rfl rfl rfl (by decide) (by decide)

theorem SymbolLength.dcChrS9 (v : BitVec 9) : SymbolLength.Statement (.dcChrS9 v) :=
  SymbolLength.ofSymbol ⟨.dc, .chr, 0, 9, v.toNat⟩ 18 rfl rfl rfl (by decide) (by decide)

theorem SymbolLength.dcChrS10 (v : BitVec 10) : SymbolLength.Statement (.dcChrS10 v) :=
  SymbolLength.ofSymbol ⟨.dc, .chr, 0, 10, v.toNat⟩ 20 rfl rfl rfl (by decide) (by decide)

theorem SymbolLength.dcChrS11 (v : BitVec 11) : SymbolLength.Statement (.dcChrS11 v) :=
  SymbolLength.ofSymbol ⟨.dc, .chr, 0, 11, v.toNat⟩ 22 rfl rfl rfl (by decide) (by decide)

theorem SymbolLength.acLumEob : SymbolLength.Statement .acLumEob :=
  SymbolLength.ofSymbol ⟨.ac, .lum, 0, 0, 0⟩ 4 rfl rfl rfl (by decide) (by decide)

theorem SymbolLength.acLumR0S1 (v : BitVec 1) : SymbolLength.Statement (.acLumR0S1 v) :=
  SymbolLength.ofSymbol ⟨.ac, .lum, 0, 1, v.toNat⟩ 3 rfl rfl rfl (by decide) (by decide)

theorem SymbolLength.acLumR0S2 (v : BitVec 2) : SymbolLength.Statement (.acLumR0S2 v) :=
  SymbolLength.ofSymbol ⟨.ac, .lum, 0, 2, v.toNat⟩ 4 rfl rfl rfl (by decide) (by decide)

theorem SymbolLength.acLumR0S3 (v : BitVec 3) : SymbolLength.Statement (.acLumR0S3 v) :=
  SymbolLength.ofSymbol ⟨.ac, .lum, 0, 3, v.toNat⟩ 6 rfl rfl rfl (by decide) (by decide)

theorem SymbolLength.acLumR0S4 (v : BitVec 4) : SymbolLength.Statement (.acLumR0S4 v) :=
  SymbolLength.ofSymbol ⟨.ac, .lum, 0, 4, v.toNat⟩ 8 rfl rfl rfl (by decide) (by decide)

theorem SymbolLength.acLumR0S5 (v : BitVec 5) : SymbolLength.Statement (.acLumR0S5 v) :=
  SymbolLength.ofSymbol ⟨.ac, .lum, 0, 5, v.toNat⟩ 10 rfl rfl rfl (by decide) (by decide)

theorem SymbolLength.acLumR0S6 (v : BitVec 6) : SymbolLength.Statement (.acLumR0S6 v) :=
  SymbolLength.ofSymbol ⟨.ac, .lum, 0, 6, v.toNat⟩ 13 rfl rfl rfl (by decide) (by decide)

theorem SymbolLength.acLumR0S7 (v : BitVec 7) : SymbolLength.Statement (.acLumR0S7 v) :=
  SymbolLength.ofSymbol ⟨.ac, .lum, 0, 7, v.toNat⟩ 15 rfl rfl rfl (by decide) (by decide)

theorem SymbolLength.acLumR0S8 (v : BitVec 8) : SymbolLength.Statement (.acLumR0S8 v) :=
  SymbolLength.ofSymbol ⟨.ac, .lum, 0, 8, v.toNat⟩ 18 rfl rfl rfl (by decide) (by decide)

theorem SymbolLength.acLumR0S9 (v : BitVec 9) : SymbolLength.Statement (.acLumR0S9 v) :=
  SymbolLength.ofSymbol ⟨.ac, .lum, 0, 9, v.toNat⟩ 25 rfl rfl rfl (by decide) (by decide)

theorem SymbolLength.acLumR0S10 (v : BitVec 10) : SymbolLength.Statement (.acLumR0S10 v) :=
  SymbolLength.ofSymbol ⟨.ac, .lum, 0, 10, v.toNat⟩ 26 rfl rfl rfl (by decide) (by decide)

theorem SymbolLength.acLumR1S1 (v : BitVec 1) : SymbolLength.Statement (.acLumR1S1 v) :=
  SymbolLength.ofSymbol ⟨.ac, .lum, 1, 1, v.toNat⟩ 5 rfl rfl rfl (by decide) (by decide)

theorem SymbolLength.acLumR1S2 (v : BitVec 2) : SymbolLength.Statement (.acLumR1S2 v) :=
  SymbolLength.ofSymbol ⟨.ac, .lum, 1, 2, v.toNat⟩ 7 rfl rfl rfl (by decide) (by decide)

theorem SymbolLength.acLumR1S3 (v : BitVec 3) : SymbolLength.Statement (.acLumR1S3 v) :=
  SymbolLength.ofSymbol ⟨.ac, .lum, 1, 3, v.toNat⟩ 10 rfl rfl rfl (by decide) (by decide)

theorem SymbolLength.acLumR1S4 (v : BitVec 4) : SymbolLength.Statement (.acLumR1S4 v) :=
  SymbolLength.ofSymbol ⟨.ac, .lum, 1, 4, v.toNat⟩ 13 rfl rfl rfl (by decide) (by decide)

theorem SymbolLength.acLumR1S5 (v : BitVec 5) : SymbolLength.Statement (.acLumR1S5 v) :=
  SymbolLength.ofSymbol ⟨.ac, .lum, 1, 5, v.toNat⟩ 16 rfl rfl rfl (by decide) (by decide)

theorem SymbolLength.acLumR1S6 (v : BitVec 6) : SymbolLength.Statement (.acLumR1S6 v) :=
  SymbolLength.ofSymbol ⟨.ac, .lum, 1, 6, v.toNat⟩ 22 rfl rfl rfl (by decide) (by decide)

theorem SymbolLength.acLumR1S7 (v : BitVec 7) : SymbolLength.Statement (.acLumR1S7 v) :=
  SymbolLength.ofSymbol ⟨.ac, .lum, 1, 7, v.toNat⟩ 23 rfl rfl rfl (by decide) (by decide)

theorem SymbolLength.acLumR1S8 (v : BitVec 8) : SymbolLength.Statement (.acLumR1S8 v) :=
  SymbolLength.ofSymbol ⟨.ac, .lum, 1, 8, v.toNat⟩ 24 rfl rfl rfl (by decide) (by decide)

theorem SymbolLength.acLumR1S9 (v : BitVec 9) : SymbolLength.Statement (.acLumR1S9 v) :=
  SymbolLength.ofSymbol ⟨.ac, .lum, 1, 9, v.toNat⟩ 25 rfl rfl rfl (by decide) (by decide)

theorem SymbolLength.acLumR1S10 (v : BitVec 10) : SymbolLength.Statement (.acLumR1S10 v) :=
  SymbolLength.ofSymbol ⟨.ac, .lum, 1, 10, v.toNat⟩ 26 rfl rfl rfl (by decide) (by decide)

theorem SymbolLength.acLumR2S1 (v : BitVec 1) : SymbolLength.Statement (.acLumR2S1 v) :=
  SymbolLength.ofSymbol ⟨.ac, .lum, 2, 1, v.toNat⟩ 6 rfl rfl rfl (by decide) (by decide)

theorem SymbolLength.acLumR2S2 (v : BitVec 2) : SymbolLength.Statement (.acLumR2S2 v) :=
  SymbolLength.ofSymbol ⟨.ac, .lum, 2, 2, v.toNat⟩ 10 rfl rfl rfl (by decide) (by decide)

theorem SymbolLength.acLumR2S3 (v : BitVec 3) : SymbolLength.Statement (.acLumR2S3 v) :=
  SymbolLength.ofSymbol ⟨.ac, .lum, 2, 3, v.toNat⟩ 13 rfl rfl rfl (by decide) (by decide)

theorem SymbolLength.acLumR2S4 (v : BitVec 4) : SymbolLength.Statement (.acLumR2S4 v) :=
  SymbolLength.ofSymbol ⟨.ac, .lum, 2, 4, v.toNat⟩ 16 rfl rfl rfl (by decide) (by decide)

theorem SymbolLength.acLumR2S5 (v : BitVec 5) : SymbolLength.Statement (.acLumR2S5 v) :=
  SymbolLength.ofSymbol ⟨.ac, .lum, 2, 5, v.toNat⟩ 21 rfl rfl rfl (by decide) (by decide)

theorem SymbolLength.acLumR2S6 (v : BitVec 6) : SymbolLength.Statement (.acLumR2S6 v) :=
  SymbolLength.ofSymbol ⟨.ac, .lum, 2, 6, v.toNat⟩ 22 rfl rfl rfl (by decide) (by decide)

theorem SymbolLength.acLumR2S7 (v : BitVec 7) : SymbolLength.Statement (.acLumR2S7 v) :=
  SymbolLength.ofSymbol ⟨.ac, .lum, 2, 7, v.toNat⟩ 23 rfl rfl rfl (by decide) (by decide)

theorem SymbolLength.acLumR2S8 (v : BitVec 8) : SymbolLength.Statement (.acLumR2S8 v) :=
  SymbolLength.ofSymbol ⟨.ac, .lum, 2, 8, v.toNat⟩ 24 rfl rfl rfl (by decide) (by decide)

theorem SymbolLength.acLumR2S9 (v : BitVec 9) : SymbolLength.Statement (.acLumR2S9 v) :=
  SymbolLength.ofSymbol ⟨.ac, .lum, 2, 9, v.toNat⟩ 25 rfl rfl rfl (by decide) (by decide)

theorem SymbolLength.acLumR2S10 (v : BitVec 10) : SymbolLength.Statement (.acLumR2S10 v) :=
  SymbolLength.ofSymbol ⟨.ac, .lum, 2, 10, v.toNat⟩ 26 rfl rfl rfl (by decide) (by decide)

theorem SymbolLength.acLumR3S1 (v : BitVec 1) : SymbolLength.Statement (.acLumR3S1 v) :=
  SymbolLength.ofSymbol ⟨.ac, .lum, 3, 1, v.toNat⟩ 7 rfl rfl rfl (by decide) (by decide)

theorem SymbolLength.acLumR3S2 (v : BitVec 2) : SymbolLength.Statement (.acLumR3S2 v) :=
  SymbolLength.ofSymbol ⟨.ac, .lum, 3, 2, v.toNat⟩ 11 rfl rfl rfl (by decide) (by decide)

theorem SymbolLength.acLumR3S3 (v : BitVec 3) : SymbolLength.Statement (.acLumR3S3 v) :=
  SymbolLength.ofSymbol ⟨.ac, .lum, 3, 3, v.toNat⟩ 15 rfl rfl rfl (by decide) (by decide)

theorem SymbolLength.acLumR3S4 (v : BitVec 4) : SymbolLength.Statement (.acLumR3S4 v) :=
  SymbolLength.ofSymbol ⟨.ac, .lum, 3, 4, v.toNat⟩ 20 rfl rfl rfl (by decide) (by decide)

theorem SymbolLength.acLumR3S5 (v : BitVec 5) : SymbolLength.Statement (.acLumR3S5 v) :=
  SymbolLength.ofSymbol ⟨.ac, .lum, 3, 5, v.toNat⟩ 21 rfl rfl rfl (by decide) (by decide)

theorem SymbolLength.acLumR3S6 (v : BitVec 6) : SymbolLength.Statement (.acLumR3S6 v) :=
  SymbolLength.ofSymbol ⟨.ac, .lum, 3, 6, v.toNat⟩ 22 rfl rfl rfl (by decide) (by decide)

theorem SymbolLength.acLumR3S7 (v : BitVec 7) : SymbolLength.Statement (.acLumR3S7 v) :=
  SymbolLength.ofSymbol ⟨.ac, .lum, 3, 7, v.toNat⟩ 23 rfl rfl rfl (by decide) (by decide)

theorem SymbolLength.acLumR3S8 (v : BitVec 8) : SymbolLength.Statement (.acLumR3S8 v) :=
  SymbolLength.ofSymbol ⟨.ac, .lum, 3, 8, v.toNat⟩ 24 rfl rfl rfl (by decide) (by decide)

theorem SymbolLength.acLumR3S9 (v : BitVec 9) : SymbolLength.Statement (.acLumR3S9 v) :=
  SymbolLength.ofSymbol ⟨.ac, .lum, 3, 9, v.toNat⟩ 25 rfl rfl rfl (by decide) (by decide)

theorem SymbolLength.acLumR3S10 (v : BitVec 10) : SymbolLength.Statement (.acLumR3S10 v) :=
  SymbolLength.ofSymbol ⟨.ac, .lum, 3, 10, v.toNat⟩ 26 rfl rfl rfl (by decide) (by decide)

theorem SymbolLength.acLumR4S1 (v : BitVec 1) : SymbolLength.Statement (.acLumR4S1 v) :=
  SymbolLength.ofSymbol ⟨.ac, .lum, 4, 1, v.toNat⟩ 7 rfl rfl rfl (by decide) (by decide)

theorem SymbolLength.acLumR4S2 (v : BitVec 2) : SymbolLength.Statement (.acLumR4S2 v) :=
  SymbolLength.ofSymbol ⟨.ac, .lum, 4, 2, v.toNat⟩ 12 rfl rfl rfl (by decide) (by decide)

theorem SymbolLength.acLumR4S3 (v : BitVec 3) : SymbolLength.Statement (.acLumR4S3 v) :=
  SymbolLength.ofSymbol ⟨.ac, .lum, 4, 3, v.toNat⟩ 19 rfl rfl rfl (by decide) (by decide)

theorem SymbolLength.acLumR4S4 (v : BitVec 4) : SymbolLength.Statement (.acLumR4S4 v) :=
  SymbolLength.ofSymbol ⟨.ac, .lum, 4, 4, v.toNat⟩ 20 rfl rfl rfl (by decide) (by decide)

theorem SymbolLength.acLumR4S5 (v : BitVec 5) : SymbolLength.Statement (.acLumR4S5 v) :=
  SymbolLength.ofSymbol ⟨.ac, .lum, 4, 5, v.toNat⟩ 21 rfl rfl rfl (by decide) (by decide)

theorem SymbolLength.acLumR4S6 (v : BitVec 6) : SymbolLength.Statement (.acLumR4S6 v) :=
  SymbolLength.ofSymbol ⟨.ac, .lum, 4, 6, v.toNat⟩ 22 rfl rfl rfl (by decide) (by decide)

theorem SymbolLength.acLumR4S7 (v : BitVec 7) : SymbolLength.Statement (.acLumR4S7 v) :=
  SymbolLength.ofSymbol ⟨.ac, .lum, 4, 7, v.toNat⟩ 23 rfl rfl rfl (by decide) (by decide)

theorem SymbolLength.acLumR4S8 (v : BitVec 8) : SymbolLength.Statement (.acLumR4S8 v) :=
  SymbolLength.ofSymbol ⟨.ac, .lum, 4, 8, v.toNat⟩ 24 rfl rfl rfl (by decide) (by decide)

theorem SymbolLength.acLumR4S9 (v : BitVec 9) : SymbolLength.Statement (.acLumR4S9 v) :=
  SymbolLength.ofSymbol ⟨.ac, .lum, 4, 9, v.toNat⟩ 25 rfl rfl rfl (by decide) (by decide)

theorem SymbolLength.acLumR4S10 (v : BitVec 10) : SymbolLength.Statement (.acLumR4S10 v) :=
  SymbolLength.ofSymbol ⟨.ac, .lum, 4, 10, v.toNat⟩ 26 rfl rfl rfl (by decide) (by decide)

theorem SymbolLength.acLumR5S1 (v : BitVec 1) : SymbolLength.Statement (.acLumR5S1 v) :=
  SymbolLength.ofSymbol ⟨.ac, .lum, 5, 1, v.toNat⟩ 8 rfl rfl rfl (by decide) (by decide)

theorem SymbolLength.acLumR5S2 (v : BitVec 2) : SymbolLength.Statement (.acLumR5S2 v) :=
  SymbolLength.ofSymbol ⟨.ac, .lum, 5, 2, v.toNat⟩ 13 rfl rfl rfl (by decide) (by decide)

theorem SymbolLength.acLumR5S3 (v : BitVec 3) : SymbolLength.Statement (.acLumR5S3 v) :=
  SymbolLength.ofSymbol ⟨.ac, .lum, 5, 3, v.toNat⟩ 19 rfl rfl rfl (by decide) (by decide)

theorem SymbolLength.acLumR5S4 (v : BitVec 4) : SymbolLength.Statement (.acLumR5S4 v) :=
  SymbolLength.ofSymbol ⟨.ac, .lum, 5, 4, v.toNat⟩ 20 rfl rfl rfl (by decide) (by decide)

theorem SymbolLength.acLumR5S5 (v : BitVec 5) : SymbolLength.Statement (.acLumR5S5 v) :=
  SymbolLength.ofSymbol ⟨.ac, .lum, 5, 5, v.toNat⟩ 21 rfl rfl rfl (by decide) (by decide)

theorem SymbolLength.acLumR5S6 (v : BitVec 6) : SymbolLength.Statement (.acLumR5S6 v) :=
  SymbolLength.ofSymbol ⟨.ac, .lum, 5, 6, v.toNat⟩ 22 rfl rfl rfl (by decide) (by decide)

theorem SymbolLength.acLumR5S7 (v : BitVec 7) : SymbolLength.Statement (.acLumR5S7 v) :=
  SymbolLength.ofSymbol ⟨.ac, .lum, 5, 7, v.toNat⟩ 23 rfl rfl rfl (by decide) (by decide)

theorem SymbolLength.acLumR5S8 (v : BitVec 8) : SymbolLength.Statement (.acLumR5S8 v) :=
  SymbolLength.ofSymbol ⟨.ac, .lum, 5, 8, v.toNat⟩ 24 rfl rfl rfl (by decide) (by decide)

theorem SymbolLength.acLumR5S9 (v : BitVec 9) : SymbolLength.Statement (.acLumR5S9 v) :=
  SymbolLength.ofSymbol ⟨.ac, .lum, 5, 9, v.toNat⟩ 25 rfl rfl rfl (by decide) (by decide)

theorem SymbolLength.acLumR5S10 (v : BitVec 10) : SymbolLength.Statement (.acLumR5S10 v) :=
  SymbolLength.ofSymbol ⟨.ac, .lum, 5, 10, v.toNat⟩ 26 rfl rfl rfl (by decide) (by decide)

theorem SymbolLength.acLumR6S1 (v : BitVec 1) : SymbolLength.Statement (.acLumR6S1 v) :=
  SymbolLength.ofSymbol ⟨.ac, .lum, 6, 1, v.toNat⟩ 8 rfl rfl rfl (by decide) (by decide)

theorem SymbolLength.acLumR6S2 (v : BitVec 2) : SymbolLength.Statement (.acLumR6S2 v) :=
  SymbolLength.ofSymbol ⟨.ac, .lum, 6, 2, v.toNat⟩ 14 rfl rfl rfl (by decide) (by decide)

theorem SymbolLength.acLumR6S3 (v : BitVec 3) : SymbolLength.Statement (.acLumR6S3 v) :=
  SymbolLength.ofSymbol ⟨.ac, .lum, 6, 3, v.toNat⟩ 19 rfl rfl rfl (by decide) (by decide)

theorem SymbolLength.acLumR6S4 (v : BitVec 4) : SymbolLength.Statement (.acLumR6S4 v) :=
  SymbolLength.ofSymbol ⟨.ac, .lum, 6, 4, v.toNat⟩ 20 rfl rfl rfl (by decide) (by decide)

theorem SymbolLength.acLumR6S5 (v : BitVec 5) : SymbolLength.Statement (.acLumR6S5 v) :=
  SymbolLength.ofSymbol ⟨.ac, .lum, 6, 5, v.toNat⟩ 21 rfl rfl rfl (by decide) (by decide)

theorem SymbolLength.acLumR6S6 (v : BitVec 6) : SymbolLength.Statement (.acLumR6S6 v) :=
  SymbolLength.ofSymbol ⟨.ac, .lum, 6, 6, v.toNat⟩ 22 rfl rfl rfl (by decide) (by decide)

theorem SymbolLength.acLumR6S7 (v : BitVec 7) : SymbolLength.Statement (.acLumR6S7 v) :=
  SymbolLength.ofSymbol ⟨.ac, .lum, 6, 7, v.toNat⟩ 23 rfl rfl rfl (by decide) (by decide)

theorem SymbolLength.acLumR6S8 (v : BitVec 8) : SymbolLength.Statement (.acLumR6S8 v) :=
  SymbolLength.ofSymbol ⟨.ac, .lum, 6, 8, v.toNat⟩ 24 rfl rfl rfl (by decide) (by decide)

theorem SymbolLength.acLumR6S9 (v : BitVec 9) : SymbolLength.Statement (.acLumR6S9 v) :=
  SymbolLength.ofSymbol ⟨.ac, .lum, 6, 9, v.toNat⟩ 25 rfl rfl rfl (by decide) (by decide)

theorem SymbolLength.acLumR6S10 (v : BitVec 10) : SymbolLength.Statement (.acLumR6S10 v) :=
  SymbolLength.ofSymbol ⟨.ac, .lum, 6, 10, v.toNat⟩ 26 rfl rfl rfl (by decide) (by decide)

theorem SymbolLength.acLumR7S1 (v : BitVec 1) : SymbolLength.Statement (.acLumR7S1 v) :=
  SymbolLength.ofSymbol ⟨.ac, .lum, 7, 1, v.toNat⟩ 9 rfl rfl rfl (by decide) (by decide)

theorem SymbolLength.acLumR7S2 (v : BitVec 2) : SymbolLength.Statement (.acLumR7S2 v) :=
  SymbolLength.ofSymbol ⟨.ac, .lum, 7, 2, v.toNat⟩ 14 rfl rfl rfl (by decide) (by decide)

theorem SymbolLength.acLumR7S3 (v : BitVec 3) : SymbolLength.Statement (.acLumR7S3 v) :=
  SymbolLength.ofSymbol ⟨.ac, .lum, 7, 3, v.toNat⟩ 19 rfl rfl rfl (by decide) (by decide)

theorem SymbolLength.acLumR7S4 (v : BitVec 4) : SymbolLength.Statement (.acLumR7S4 v) :=
  SymbolLength.ofSymbol ⟨.ac, .lum, 7, 4, v.toNat⟩ 20 rfl rfl rfl (by decide) (by decide)

theorem SymbolLength.acLumR7S5 (v : BitVec 5) : SymbolLength.Statement (.acLumR7S5 v) :=
  SymbolLength.ofSymbol ⟨.ac, .lum, 7, 5, v.toNat⟩ 21 rfl rfl rfl (by decide) (by decide)

theorem SymbolLength.acLumR7S6 (v : BitVec 6) : SymbolLength.Statement (.acLumR7S6 v) :=
  SymbolLength.ofSymbol ⟨.ac, .lum, 7, 6, v.toNat⟩ 22 rfl rfl rfl (by decide) (by decide)

theorem SymbolLength.acLumR7S7 (v : BitVec 7) : SymbolLength.Statement (.acLumR7S7 v) :=
  SymbolLength.ofSymbol ⟨.ac, .lum, 7, 7, v.toNat⟩ 23 rfl rfl rfl (by decide) (by decide)

theorem SymbolLength.acLumR7S8 (v : BitVec 8) : SymbolLength.Statement (.acLumR7S8 v) :=
  SymbolLength.ofSymbol ⟨.ac, .lum, 7, 8, v.toNat⟩ 24 rfl rfl rfl (by decide) (by decide)

theorem SymbolLength.acLumR7S9 (v : BitVec 9) : SymbolLength.Statement (.acLumR7S9 v) :=
  SymbolLength.ofSymbol ⟨.ac, .lum, 7, 9, v.toNat⟩ 25 rfl rfl rfl (by decide) (by decide)

theorem SymbolLength.acLumR7S10 (v : BitVec 10) : SymbolLength.Statement (.acLumR7S10 v) :=
  SymbolLength.ofSymbol ⟨.ac, .lum, 7, 10, v.toNat⟩ 26 rfl rfl rfl (by decide) (by decide)

theorem SymbolLength.acLumR8S1 (v : BitVec 1) : SymbolLength.Statement (.acLumR8S1 v) :=
  SymbolLength.ofSymbol ⟨.ac, .lum, 8, 1, v.toNat⟩ 10 rfl rfl rfl (by decide) (by decide)

theorem SymbolLength.acLumR8S2 (v : BitVec 2) : SymbolLength.Statement (.acLumR8S2 v) :=
  SymbolLength.ofSymbol ⟨.ac, .lum, 8, 2, v.toNat⟩ 17 rfl rfl rfl (by decide) (by decide)

theorem SymbolLength.acLumR8S3 (v : BitVec 3) : SymbolLength.Statement (.acLumR8S3 v) :=
  SymbolLength.ofSymbol ⟨.ac, .lum, 8, 3, v.toNat⟩ 19 rfl rfl rfl (by decide) (by decide)

theorem SymbolLength.acLumR8S4 (v : BitVec 4) : SymbolLength.Statement (.acLumR8S4 v) :=
  SymbolLength.ofSymbol ⟨.ac, .lum, 8, 4, v.toNat⟩ 20 rfl rfl rfl (by decide) (by decide)

theorem SymbolLength.acLumR8S5 (v : BitVec 5) : SymbolLength.Statement (.acLumR8S5 v) :=
  SymbolLength.ofSymbol ⟨.ac, .lum, 8, 5, v.toNat⟩ 21 rfl rfl rfl (by decide) (by decide)

theorem SymbolLength.acLumR8S6 (v : BitVec 6) : SymbolLength.Statement (.acLumR8S6 v) :=
  SymbolLength.ofSymbol ⟨.ac, .lum, 8, 6, v.toNat⟩ 22 rfl rfl rfl (by decide) (by decide)

theorem SymbolLength.acLumR8S7 (v : BitVec 7) : SymbolLength.Statement (.acLumR8S7 v) :=
  SymbolLength.ofSymbol ⟨.ac, .lum, 8, 7, v.toNat⟩ 23 rfl rfl rfl (by decide) (by decide)

theorem SymbolLength.acLumR8S8 (v : BitVec 8) : SymbolLength.Statement (.acLumR8S8 v) :=
  SymbolLength.ofSymbol ⟨.ac, .lum, 8, 8, v.toNat⟩ 24 rfl rfl rfl (by decide) (by decide)

theorem SymbolLength.acLumR8S9 (v : BitVec 9) : SymbolLength.Statement (.acLumR8S9 v) :=
  SymbolLength.ofSymbol ⟨.ac, .lum, 8, 9, v.toNat⟩ 25 rfl rfl rfl (by decide) (by decide)

theorem SymbolLength.acLumR8S10 (v : BitVec 10) : SymbolLength.Statement (.acLumR8S10 v) :=
  SymbolLength.ofSymbol ⟨.ac, .lum, 8, 10, v.toNat⟩ 26 rfl rfl rfl (by decide) (by decide)

theorem SymbolLength.acLumR9S1 (v : BitVec 1) : SymbolLength.Statement (.acLumR9S1 v) :=
  SymbolLength.ofSymbol ⟨.ac, .lum, 9, 1, v.toNat⟩ 10 rfl rfl rfl (by decide) (by decide)

theorem SymbolLength.acLumR9S2 (v : BitVec 2) : SymbolLength.Statement (.acLumR9S2 v) :=
  SymbolLength.ofSymbol ⟨.ac, .lum, 9, 2, v.toNat⟩ 18 rfl rfl rfl (by decide) (by decide)

theorem SymbolLength.acLumR9S3 (v : BitVec 3) : SymbolLength.Statement (.acLumR9S3 v) :=
  SymbolLength.ofSymbol ⟨.ac, .lum, 9, 3, v.toNat⟩ 19 rfl rfl rfl (by decide) (by decide)

theorem SymbolLength.acLumR9S4 (v : BitVec 4) : SymbolLength.Statement (.acLumR9S4 v) :=
  SymbolLength.ofSymbol ⟨.ac, .lum, 9, 4, v.toNat⟩ 20 rfl rfl rfl (by decide) (by decide)

theorem SymbolLength.acLumR9S5 (v : BitVec 5) : SymbolLength.Statement (.acLumR9S5 v) :=
  SymbolLength.ofSymbol ⟨.ac, .lum, 9, 5, v.toNat⟩ 21 rfl rfl rfl (by decide) (by decide)

theorem SymbolLength.acLumR9S6 (v : BitVec 6) : SymbolLength.Statement (.acLumR9S6 v) :=
  SymbolLength.ofSymbol ⟨.ac, .lum, 9, 6, v.toNat⟩ 22 rfl rfl rfl (by decide) (by decide)

theorem SymbolLength.acLumR9S7 (v : BitVec 7) : SymbolLength.Statement (.acLumR9S7 v) :=
  SymbolLength.ofSymbol ⟨.ac, .lum, 9, 7, v.toNat⟩ 23 rfl rfl rfl (by decide) (by decide)

theorem SymbolLength.acLumR9S8 (v : BitVec 8) : SymbolLength.Statement (.acLumR9S8 v) :=
  SymbolLength.ofSymbol ⟨.ac, .lum, 9, 8, v.toNat⟩ 24 rfl rfl rfl (by decide) (by decide)

theorem SymbolLength.acLumR9S9 (v : BitVec 9) : SymbolLength.Statement (.acLumR9S9 v) :=
  SymbolLength.ofSymbol ⟨.ac, .lum, 9, 9, v.toNat⟩ 25 rfl rfl rfl (by decide) (by decide)

theorem SymbolLength.acLumR9S10 (v : BitVec 10) : SymbolLength.Statement (.acLumR9S10 v) :=
  SymbolLength.ofSymbol ⟨.ac, .lum, 9, 10, v.toNat⟩ 26 rfl rfl rfl (by decide) (by decide)

theorem SymbolLength.acLumR10S1 (v : BitVec 1) : SymbolLength.Statement (.acLumR10S1 v) :=
  SymbolLength.ofSymbol ⟨.ac, .lum, 10, 1, v.toNat⟩ 10 rfl rfl rfl (by decide) (by decide)

theorem SymbolLength.acLumR10S2 (v : BitVec 2) : SymbolLength.Statement (.acLumR10S2 v) :=
  SymbolLength.ofSymbol ⟨.ac, .lum, 10, 2, v.toNat⟩ 18 rfl rfl rfl (by decide) (by decide)

theorem SymbolLength.acLumR10S3 (v : BitVec 3) : SymbolLength.Statement (.acLumR10S3 v) :=
  SymbolLength.ofSymbol ⟨.ac, .lum, 10, 3, v.toNat⟩ 19 rfl rfl rfl (by decide) (by decide)

theorem SymbolLength.acLumR10S4 (v : BitVec 4) : SymbolLength.Statement (.acLumR10S4 v) :=
  SymbolLength.ofSymbol ⟨.ac, .lum, 10, 4, v.toNat⟩ 20 rfl rfl rfl (by decide) (by decide)

theorem SymbolLength.acLumR10S5 (v : BitVec 5) : SymbolLength.Statement (.acLumR10S5 v) :=
  SymbolLength.ofSymbol ⟨.ac, .lum, 10, 5, v.toNat⟩ 21 rfl rfl rfl (by decide) (by decide)

theorem SymbolLength.acLumR10S6 (v : BitVec 6) : SymbolLength.Statement (.acLumR10S6 v) :=
  SymbolLength.ofSymbol ⟨.ac, .lum, 10, 6, v.toNat⟩ 22 rfl rfl rfl (by decide) (by decide)

theorem SymbolLength.acLumR10S7 (v : BitVec 7) : SymbolLength.Statement (.acLumR10S7 v) :=
  SymbolLength.ofSymbol ⟨.ac, .lum, 10, 7, v.toNat⟩ 23 rfl rfl rfl (by decide) (by decide)

theorem SymbolLength.acLumR10S8 (v : BitVec 8) : SymbolLength.Statement (.acLumR10S8 v) :=
  SymbolLength.ofSymbol ⟨.ac, .lum, 10, 8, v.toNat⟩ 24 rfl rfl rfl (by decide) (by decide)

theorem SymbolLength.acLumR10S9 (v : BitVec 9) : SymbolLength.Statement (.acLumR10S9 v) :=
  SymbolLength.ofSymbol ⟨.ac, .lum, 10, 9, v.toNat⟩ 25 rfl rfl rfl (by decide) (by decide)

theorem SymbolLength.acLumR10S10 (v : BitVec 10) : SymbolLength.Statement (.acLumR10S10 v) :=
  SymbolLength.ofSymbol ⟨.ac, .lum, 10, 10, v.toNat⟩ 26 rfl rfl rfl (by decide) (by decide)

theorem SymbolLength.acLumR11S1 (v : BitVec 1) : SymbolLength.Statement (.acLumR11S1 v) :=
  SymbolLength.ofSymbol ⟨.ac, .lum, 11, 1, v.toNat⟩ 11 rfl rfl rfl (by decide) (by decide)

theorem SymbolLength.acLumR11S2 (v : BitVec 2) : SymbolLength.Statement (.acLumR11S2 v) :=
  SymbolLength.ofSymbol ⟨.ac, .lum, 11, 2, v.toNat⟩ 18 rfl rfl rfl (by decide) (by decide)

theorem SymbolLength.acLumR11S3 (v : BitVec 3) : SymbolLength.Statement (.acLumR11S3 v) :=
  SymbolLength.ofSymbol ⟨.ac, .lum, 11, 3, v.toNat⟩ 19 rfl rfl rfl (by decide) (by decide)

theorem SymbolLength.acLumR11S4 (v : BitVec 4) : SymbolLength.Statement (.acLumR11S4 v) :=
  SymbolLength.ofSymbol ⟨.ac, .lum, 11, 4, v.toNat⟩ 20 rfl rfl rfl (by decide) (by decide)

theorem SymbolLength.acLumR11S5 (v : BitVec 5) : SymbolLength.Statement (.acLumR11S5 v) :=
  SymbolLength.ofSymbol ⟨.ac, .lum, 11, 5, v.toNat⟩ 21 rfl rfl rfl (by decide) (by decide)

theorem SymbolLength.acLumR11S6 (v : BitVec 6) : SymbolLength.Statement (.acLumR11S6 v) :=
  SymbolLength.ofSymbol ⟨.ac, .lum, 11, 6, v.toNat⟩ 22 rfl rfl rfl (by decide) (by decide)

theorem SymbolLength.acLumR11S7 (v : BitVec 7) : SymbolLength.Statement (.acLumR11S7 v) :=
  SymbolLength.ofSymbol ⟨.ac, .lum, 11, 7, v.toNat⟩ 23 rfl rfl rfl (by decide) (by decide)

theorem SymbolLength.acLumR11S8 (v : BitVec 8) : SymbolLength.Statement (.acLumR11S8 v) :=
  SymbolLength.ofSymbol ⟨.ac, .lum, 11, 8, v.toNat⟩ 24 rfl rfl rfl (by decide) (by decide)

theorem SymbolLength.acLumR11S9 (v : BitVec 9) : SymbolLength.Statement (.acLumR11S9 v) :=
  SymbolLength.ofSymbol ⟨.ac, .lum, 11, 9, v.toNat⟩ 25 rfl rfl rfl (by decide) (by decide)

theorem SymbolLength.acLumR11S10 (v : BitVec 10) : SymbolLength.Statement (.acLumR11S10 v) :=
  SymbolLength.ofSymbol ⟨.ac, .lum, 11, 10, v.toNat⟩ 26 rfl rfl rfl (by decide) (by decide)

theorem SymbolLength.acLumR12S1 (v : BitVec 1) : SymbolLength.Statement (.acLumR12S1 v) :=
  SymbolLength.ofSymbol ⟨.ac, .lum, 12, 1, v.toNat⟩ 11 rfl rfl rfl (by decide) (by decide)

theorem SymbolLength.acLumR12S2 (v : BitVec 2) : SymbolLength.Statement (.acLumR12S2 v) :=
  SymbolLength.ofSymbol ⟨.ac, .lum, 12, 2, v.toNat⟩ 18 rfl rfl rfl (by decide) (by decide)

theorem SymbolLength.acLumR12S3 (v : BitVec 3) : SymbolLength.Statement (.acLumR12S3 v) :=
  SymbolLength.ofSymbol ⟨.ac, .lum, 12, 3, v.toNat⟩ 19 rfl rfl rfl (by decide) (by decide)

theorem SymbolLength.acLumR12S4 (v : BitVec 4) : SymbolLength.Statement (.acLumR12S4 v) :=
  SymbolLength.ofSymbol ⟨.ac, .lum, 12, 4, v.toNat⟩ 20 rfl rfl rfl (by decide) (by decide)

theorem SymbolLength.acLumR12S5 (v : BitVec 5) : SymbolLength.Statement (.acLumR12S5 v) :=
  SymbolLength.ofSymbol ⟨.ac, .lum, 12, 5, v.toNat⟩ 21 rfl rfl rfl (by decide) (by decide)

theorem SymbolLength.acLumR12S6 (v : BitVec 6) : SymbolLength.Statement (.acLumR12S6 v) :=
  SymbolLength.ofSymbol ⟨.ac, .lum, 12, 6, v.toNat⟩ 22 rfl rfl rfl (by decide) (by decide)

theorem SymbolLength.acLumR12S7 (v : BitVec 7) : SymbolLength.Statement (.acLumR12S7 v) :=
  SymbolLength.ofSymbol ⟨.ac, .lum, 12, 7, v.toNat⟩ 23 rfl rfl rfl (by decide) (by decide)

theorem SymbolLength.acLumR12S8 (v : BitVec 8) : SymbolLength.Statement (.acLumR12S8 v) :=
  SymbolLength.ofSymbol ⟨.ac, .lum, 12, 8, v.toNat⟩ 24 rfl rfl rfl (by decide) (by decide)

theorem SymbolLength.acLumR12S9 (v : BitVec 9) : SymbolLength.Statement (.acLumR12S9 v) :=
  SymbolLength.ofSymbol ⟨.ac, .lum, 12, 9, v.toNat⟩ 25 rfl rfl rfl (by decide) (by decide)

theorem SymbolLength.acLumR12S10 (v : BitVec 10) : SymbolLength.Statement (.acLumR12S10 v) :=
  SymbolLength.ofSymbol ⟨.ac, .lum, 12, 10, v.toNat⟩ 26 rfl rfl rfl (by decide) (by decide)

theorem SymbolLength.acLumR13S1 (v : BitVec 1) : SymbolLength.Statement (.acLumR13S1 v) :=
  SymbolLength.ofSymbol ⟨.ac, .lum, 13, 1, v.toNat⟩ 12 rfl rfl rfl (by decide) (by decide)

theorem SymbolLength.acLumR13S2 (v : BitVec 2) : SymbolLength.Statement (.acLumR13S2 v) :=
  SymbolLength.ofSymbol ⟨.ac, .lum, 13, 2, v.toNat⟩ 18 rfl rfl rfl (by decide) (by decide)

theorem SymbolLength.acLumR13S3 (v : BitVec 3) : SymbolLength.Statement (.acLumR13S3 v) :=
  SymbolLength.ofSymbol ⟨.ac, .lum, 13, 3, v.toNat⟩ 19 rfl rfl rfl (by decide) (by decide)

theorem SymbolLength.acLumR13S4 (v : BitVec 4) : SymbolLength.Statement (.acLumR13S4 v) :=
  SymbolLength.ofSymbol ⟨.ac, .lum, 13, 4, v.toNat⟩ 20 rfl rfl rfl (by decide) (by decide)

theorem SymbolLength.acLumR13S5 (v : BitVec 5) : SymbolLength.Statement (.acLumR13S5 v) :=
  SymbolLength.ofSymbol ⟨.ac, .lum, 13, 5, v.toNat⟩ 21 rfl rfl rfl (by decide) (by decide)

theorem SymbolLength.acLumR13S6 (v : BitVec 6) : SymbolLength.Statement (.acLumR13S6 v) :=
  SymbolLength.ofSymbol ⟨.ac, .lum, 13, 6, v.toNat⟩ 22 rfl rfl rfl (by decide) (by decide)

theorem SymbolLength.acLumR13S7 (v : BitVec 7) : SymbolLength.Statement (.acLumR13S7 v) :=
  SymbolLength.ofSymbol ⟨.ac, .lum, 13, 7, v.toNat⟩ 23 rfl rfl rfl (by decide) (by decide)

theorem SymbolLength.acLumR13S8 (v : BitVec 8) : SymbolLength.Statement (.acLumR13S8 v) :=
  SymbolLength.ofSymbol ⟨.ac, .lum, 13, 8, v.toNat⟩ 24 rfl rfl rfl (by decide) (by decide)

theorem SymbolLength.acLumR13S9 (v : BitVec 9) : SymbolLength.Statement (.acLumR13S9 v) :=
  SymbolLength.ofSymbol ⟨.ac, .lum, 13, 9, v.toNat⟩ 25 rfl rfl rfl (by decide) (by decide)

theorem SymbolLength.acLumR13S10 (v : BitVec 10) : SymbolLength.Statement (.acLumR13S10 v) :=
  SymbolLength.ofSymbol ⟨.ac, .lum, 13, 10, v.toNat⟩ 26 rfl rfl rfl (by decide) (by decide)

theorem SymbolLength.acLumR14S1 (v : BitVec 1) : SymbolLength.Statement (.acLumR14S1 v) :=
  SymbolLength.ofSymbol ⟨.ac, .lum, 14, 1, v.toNat⟩ 17 rfl rfl rfl (by decide) (by decide)

theorem SymbolLength.acLumR14S2 (v : BitVec 2) : SymbolLength.Statement (.acLumR14S2 v) :=
  SymbolLength.ofSymbol ⟨.ac, .lum, 14, 2, v.toNat⟩ 18 rfl rfl rfl (by decide) (by decide)

theorem SymbolLength.acLumR14S3 (v : BitVec 3) : SymbolLength.Statement (.acLumR14S3 v) :=
  SymbolLength.ofSymbol ⟨.ac, .lum, 14, 3, v.toNat⟩ 19 rfl rfl rfl (by decide) (by decide)

theorem SymbolLength.acLumR14S4 (v : BitVec 4) : SymbolLength.Statement (.acLumR14S4 v) :=
  SymbolLength.ofSymbol ⟨.ac, .lum, 14, 4, v.toNat⟩ 20 rfl rfl rfl (by decide) (by decide)

theorem SymbolLength.acLumR14S5 (v : BitVec 5) : SymbolLength.Statement (.acLumR14S5 v) :=
  SymbolLength.ofSymbol ⟨.ac, .lum, 14, 5, v.toNat⟩ 21 rfl rfl rfl (by decide) (by decide)

theorem SymbolLength.acLumR14S6 (v : BitVec 6) : SymbolLength.Statement (.acLumR14S6 v) :=
  SymbolLength.ofSymbol ⟨.ac, .lum, 14, 6, v.toNat⟩ 22 rfl rfl rfl (by decide) (by decide)

theorem SymbolLength.acLumR14S7 (v : BitVec 7) : SymbolLength.Statement (.acLumR14S7 v) :=
  SymbolLength.ofSymbol ⟨.ac, .lum, 14, 7, v.toNat⟩ 23 rfl rfl rfl (by decide) (by decide)

theorem SymbolLength.acLumR14S8 (v : BitVec 8) : SymbolLength.Statement (.acLumR14S8 v) :=
  SymbolLength.ofSymbol ⟨.ac, .lum, 14, 8, v.toNat⟩ 24 rfl rfl rfl (by decide) (by decide)

theorem SymbolLength.acLumR14S9 (v : BitVec 9) : SymbolLength.Statement (.acLumR14S9 v) :=
  SymbolLength.ofSymbol ⟨.ac, .lum, 14, 9, v.toNat⟩ 25 rfl rfl rfl (by decide) (by decide)

theorem SymbolLength.acLumR14S10 (v : BitVec 10) : SymbolLength.Statement (.acLumR14S10 v) :=
  SymbolLength.ofSymbol ⟨.ac, .lum, 14, 10, v.toNat⟩ 26 rfl rfl rfl (by decide) (by decide)

theorem SymbolLength.acLumZrl : SymbolLength.Statement .acLumZrl :=
  SymbolLength.ofSymbol ⟨.ac, .lum, 15, 0, 0⟩ 11 rfl rfl rfl (by decide) (by decide)

theorem SymbolLength.acLumR15S1 (v : BitVec 1) : SymbolLength.Statement (.acLumR15S1 v) :=
  SymbolLength.ofSymbol ⟨.ac, .lum, 15, 1, v.toNat⟩ 17 rfl rfl rfl (by decide) (by decide)

theorem SymbolLength.acLumR15S2 (v : BitVec 2) : SymbolLength.Statement (.acLumR15S2 v) :=
  SymbolLength.ofSymbol ⟨.ac, .lum, 15, 2, v.toNat⟩ 18 rfl rfl rfl (by decide) (by decide)

theorem SymbolLength.acLumR15S3 (v : BitVec 3) : SymbolLength.Statement (.acLumR15S3 v) :=
  SymbolLength.ofSymbol ⟨.ac, .lum, 15, 3, v.toNat⟩ 19 rfl rfl rfl (by decide) (by decide)

theorem SymbolLength.acLumR15S4 (v : BitVec 4) : SymbolLength.Statement (.acLumR15S4 v) :=
  SymbolLength.ofSymbol ⟨.ac, .lum, 15, 4, v.toNat⟩ 20 rfl rfl rfl (by decide) (by decide)

theorem SymbolLength.acLumR15S5 (v : BitVec 5) : SymbolLength.Statement (.acLumR15S5 v) :=
  SymbolLength.ofSymbol ⟨.ac, .lum, 15, 5, v.toNat⟩ 21 rfl rfl rfl (by decide) (by decide)

theorem SymbolLength.acLumR15S6 (v : BitVec 6) : SymbolLength.Statement (.acLumR15S6 v) :=
  SymbolLength.ofSymbol ⟨.ac, .lum, 15, 6, v.toNat⟩ 22 rfl rfl rfl (by decide) (by decide)

theorem SymbolLength.acLumR15S7 (v : BitVec 7) : SymbolLength.Statement (.acLumR15S7 v) :=
  SymbolLength.ofSymbol ⟨.ac, .lum, 15, 7, v.toNat⟩ 23 rfl rfl rfl (by decide) (by decide)

theorem SymbolLength.acLumR15S8 (v : BitVec 8) : SymbolLength.Statement (.acLumR15S8 v) :=
  SymbolLength.ofSymbol ⟨.ac, .lum, 15, 8, v.toNat⟩ 24 rfl rfl rfl (by decide) (by decide)

theorem SymbolLength.acLumR15S9 (v : BitVec 9) : SymbolLength.Statement (.acLumR15S9 v) :=
  SymbolLength.ofSymbol ⟨.ac, .lum, 15, 9, v.toNat⟩ 25 rfl rfl rfl (by decide) (by decide)

theorem SymbolLength.acLumR15S10 (v : BitVec 10) : SymbolLength.Statement (.acLumR15S10 v) :=
  SymbolLength.ofSymbol ⟨.ac, .lum, 15, 10, v.toNat⟩ 26 rfl rfl rfl (by decide) (by decide)

theorem SymbolLength.acChrEob : SymbolLength.Statement .acChrEob :=
  SymbolLength.ofSymbol ⟨.ac, .chr, 0, 0, 0⟩ 2 rfl rfl rfl (by decide) (by decide)

theorem SymbolLength.acChrR0S1 (v : BitVec 1) : SymbolLength.Statement (.acChrR0S1 v) :=
  SymbolLength.ofSymbol ⟨.ac, .chr, 0, 1, v.toNat⟩ 3 rfl rfl rfl (by decide) (by decide)

theorem SymbolLength.acChrR0S2 (v : BitVec 2) : SymbolLength.Statement (.acChrR0S2 v) :=
  SymbolLength.ofSymbol ⟨.ac, .chr, 0, 2, v.toNat⟩ 5 rfl rfl rfl (by decide) (by decide)

theorem SymbolLength.acChrR0S3 (v : BitVec 3) : SymbolLength.Statement (.acChrR0S3 v) :=
  SymbolLength.ofSymbol ⟨.ac, .chr, 0, 3, v.toNat⟩ 7 rfl rfl rfl (by decide) (by decide)

theorem SymbolLength.acChrR0S4 (v : BitVec 4) : SymbolLength.Statement (.acChrR0S4 v) :=
  SymbolLength.ofSymbol ⟨.ac, .chr, 0, 4, v.toNat⟩ 9 rfl rfl rfl (by decide) (by decide)

theorem SymbolLength.acChrR0S5 (v : BitVec 5) : SymbolLength.Statement (.acChrR0S5 v) :=
  SymbolLength.ofSymbol ⟨.ac, .chr, 0, 5, v.toNat⟩ 10 rfl rfl rfl (by decide) (by decide)

theorem SymbolLength.acChrR0S6 (v : BitVec 6) : SymbolLength.Statement (.acChrR0S6 v) :=
  SymbolLength.ofSymbol ⟨.ac, .chr, 0, 6, v.toNat⟩ 12 rfl rfl rfl (by decide) (by decide)

theorem SymbolLength.acChrR0S7 (v : BitVec 7) : SymbolLength.Statement (.acChrR0S7 v) :=
  SymbolLength.ofSymbol ⟨.ac, .chr, 0, 7, v.toNat⟩ 14 rfl rfl rfl (by decide) (by decide)

theorem SymbolLength.acChrR0S8 (v : BitVec 8) : SymbolLength.Statement (.acChrR0S8 v) :=
  SymbolLength.ofSymbol ⟨.ac, .chr, 0, 8, v.toNat⟩ 17 rfl rfl rfl (by decide) (by decide)

theorem SymbolLength.acChrR0S9 (v : BitVec 9) : SymbolLength.Statement (.acChrR0S9 v) :=
  SymbolLength.ofSymbol ⟨.ac, .chr, 0, 9, v.toNat⟩ 19 rfl rfl rfl (by decide) (by decide)

theorem SymbolLength.acChrR0S10 (v : BitVec 10) : SymbolLength.Statement (.acChrR0S10 v) :=
  SymbolLength.ofSymbol ⟨.ac, .chr, 0, 10, v.toNat⟩ 22 rfl rfl rfl (by decide) (by decide)

theorem SymbolLength.acChrR1S1 (v : BitVec 1) : SymbolLength.Statement (.acChrR1S1 v) :=
  SymbolLength.ofSymbol ⟨.ac, .chr, 1, 1, v.toNat⟩ 5 rfl rfl rfl (by decide) (by decide)

theorem SymbolLength.acChrR1S2 (v : BitVec 2) : SymbolLength.Statement (.acChrR1S2 v) :=
  SymbolLength.ofSymbol ⟨.ac, .chr, 1, 2, v.toNat⟩ 8 rfl rfl rfl (by decide) (by decide)

theorem SymbolLength.acChrR1S3 (v : BitVec 3) : SymbolLength.Statement (.acChrR1S3 v) :=
  SymbolLength.ofSymbol ⟨.ac, .chr, 1, 3, v.toNat⟩ 11 rfl rfl rfl (by decide) (by decide)

theorem SymbolLength.acChrR1S4 (v : BitVec 4) : SymbolLength.Statement (.acChrR1S4 v) :=
  SymbolLength.ofSymbol ⟨.ac, .chr, 1, 4, v.toNat⟩ 13 rfl rfl rfl (by decide) (by decide)

theorem SymbolLength.acChrR1S5 (v : BitVec 5) : SymbolLength.Statement (.acChrR1S5 v) :=
  SymbolLength.ofSymbol ⟨.ac, .chr, 1, 5, v.toNat⟩ 16 rfl rfl rfl (by decide) (by decide)

theorem SymbolLength.acChrR1S6 (v : BitVec 6) : SymbolLength.Statement (.acChrR1S6 v) :=
  SymbolLength.ofSymbol ⟨.ac, .chr, 1, 6, v.toNat⟩ 18 rfl rfl rfl (by decide) (by decide)

theorem SymbolLength.acChrR1S7 (v : BitVec 7) : SymbolLength.Statement (.acChrR1S7 v) :=
  SymbolLength.ofSymbol ⟨.ac, .chr, 1, 7, v.toNat⟩ 23 rfl rfl rfl (by decide) (by decide)

theorem SymbolLength.acChrR1S8 (v : BitVec 8) : SymbolLength.Statement (.acChrR1S8 v) :=
  SymbolLength.ofSymbol ⟨.ac, .chr, 1, 8, v.toNat⟩ 24 rfl rfl rfl (by decide) (by decide)

theorem SymbolLength.acChrR1S9 (v : BitVec 9) : SymbolLength.Statement (.acChrR1S9 v) :=
  SymbolLength.ofSymbol ⟨.ac, .chr, 1, 9, v.toNat⟩ 25 rfl rfl rfl (by decide) (by decide)

theorem SymbolLength.acChrR1S10 (v : BitVec 10) : SymbolLength.Statement (.acChrR1S10 v) :=
  SymbolLength.ofSymbol ⟨.ac, .chr, 1, 10, v.toNat⟩ 26 rfl rfl rfl (by decide) (by decide)

theorem SymbolLength.acChrR2S1 (v : BitVec 1) : SymbolLength.Statement (.acChrR2S1 v) :=
  SymbolLength.ofSymbol ⟨.ac, .chr, 2, 1, v.toNat⟩ 6 rfl rfl rfl (by decide) (by decide)

theorem SymbolLength.acChrR2S2 (v : BitVec 2) : SymbolLength.Statement (.acChrR2S2 v) :=
  SymbolLength.ofSymbol ⟨.ac, .chr, 2, 2, v.toNat⟩ 10 rfl rfl rfl (by decide) (by decide)

theorem SymbolLength.acChrR2S3 (v : BitVec 3) : SymbolLength.Statement (.acChrR2S3 v) :=
  SymbolLength.ofSymbol ⟨.ac, .chr, 2, 3, v.toNat⟩ 13 rfl rfl rfl (by decide) (by decide)

theorem SymbolLength.acChrR2S4 (v : BitVec 4) : SymbolLength.Statement (.acChrR2S4 v) :=
  SymbolLength.ofSymbol ⟨.ac, .chr, 2, 4, v.toNat⟩ 16 rfl rfl rfl (by decide) (by decide)

theorem SymbolLength.acChrR2S5 (v : BitVec 5) : SymbolLength.Statement (.acChrR2S5 v) :=
  SymbolLength.ofSymbol ⟨.ac, .chr, 2, 5, v.toNat⟩ 20 rfl rfl rfl (by decide) (by decide)

theorem SymbolLength.acChrR2S6 (v : BitVec 6) : SymbolLength.Statement (.acChrR2S6 v) :=
  SymbolLength.ofSymbol ⟨.ac, .chr, 2, 6, v.toNat⟩ 22 rfl rfl rfl (by decide) (by decide)

theorem SymbolLength.acChrR2S7 (v : BitVec 7) : SymbolLength.Statement (.acChrR2S7 v) :=
  SymbolLength.ofSymbol ⟨.ac, .chr, 2, 7, v.toNat⟩ 23 rfl rfl rfl (by decide) (by decide)

theorem SymbolLength.acChrR2S8 (v : BitVec 8) : SymbolLength.Statement (.acChrR2S8 v) :=
  SymbolLength.ofSymbol ⟨.ac, .chr, 2, 8, v.toNat⟩ 24 rfl rfl rfl (by decide) (by decide)

theorem SymbolLength.acChrR2S9 (v : BitVec 9) : SymbolLength.Statement (.acChrR2S9 v) :=
  SymbolLength.ofSymbol ⟨.ac, .chr, 2, 9, v.toNat⟩ 25 rfl rfl rfl (by decide) (by decide)

theorem SymbolLength.acChrR2S10 (v : BitVec 10) : SymbolLength.Statement (.acChrR2S10 v) :=
  SymbolLength.ofSymbol ⟨.ac, .chr, 2, 10, v.toNat⟩ 26 rfl rfl rfl (by decide) (by decide)

theorem SymbolLength.acChrR3S1 (v : BitVec 1) : SymbolLength.Statement (.acChrR3S1 v) :=
  SymbolLength.ofSymbol ⟨.ac, .chr, 3, 1, v.toNat⟩ 6 rfl rfl rfl (by decide) (by decide)

theorem SymbolLength.acChrR3S2 (v : BitVec 2) : SymbolLength.Statement (.acChrR3S2 v) :=
  SymbolLength.ofSymbol ⟨.ac, .chr, 3, 2, v.toNat⟩ 10 rfl rfl rfl (by decide) (by decide)

theorem SymbolLength.acChrR3S3 (v : BitVec 3) : SymbolLength.Statement (.acChrR3S3 v) :=
  SymbolLength.ofSymbol ⟨.ac, .chr, 3, 3, v.toNat⟩ 13 rfl rfl rfl (by decide) (by decide)

theorem SymbolLength.acChrR3S4 (v : BitVec 4) : SymbolLength.Statement (.acChrR3S4 v) :=
  SymbolLength.ofSymbol ⟨.ac, .chr, 3, 4, v.toNat⟩ 16 rfl rfl rfl (by decide) (by decide)

theorem SymbolLength.acChrR3S5 (v : BitVec 5) : SymbolLength.Statement (.acChrR3S5 v) :=
  SymbolLength.ofSymbol ⟨.ac, .chr, 3, 5, v.toNat⟩ 21 rfl rfl rfl (by decide) (by decide)

theorem SymbolLength.acChrR3S6 (v : BitVec 6) : SymbolLength.Statement (.acChrR3S6 v) :=
  SymbolLength.ofSymbol ⟨.ac, .chr, 3, 6, v.toNat⟩ 22 rfl rfl rfl (by decide) (by decide)

theorem SymbolLength.acChrR3S7 (v : BitVec 7) : SymbolLength.Statement (.acChrR3S7 v) :=
  SymbolLength.ofSymbol ⟨.ac, .chr, 3, 7, v.toNat⟩ 23 rfl rfl rfl (by decide) (by decide)

theorem SymbolLength.acChrR3S8 (v : BitVec 8) : SymbolLength.Statement (.acChrR3S8 v) :=
  SymbolLength.ofSymbol ⟨.ac, .chr, 3, 8, v.toNat⟩ 24 rfl rfl rfl (by decide) (by decide)

theorem SymbolLength.acChrR3S9 (v : BitVec 9) : SymbolLength.Statement (.acChrR3S9 v) :=
  SymbolLength.ofSymbol ⟨.ac, .chr, 3, 9, v.toNat⟩ 25 rfl rfl rfl (by decide) (by decide)

theorem SymbolLength.acChrR3S10 (v : BitVec 10) : SymbolLength.Statement (.acChrR3S10 v) :=
  SymbolLength.ofSymbol ⟨.ac, .chr, 3, 10, v.toNat⟩ 26 rfl rfl rfl (by decide) (by decide)

theorem SymbolLength.acChrR4S1 (v : BitVec 1) : SymbolLength.Statement (.acChrR4S1 v) :=
  SymbolLength.ofSymbol ⟨.ac, .chr, 4, 1, v.toNat⟩ 7 rfl rfl rfl (by decide) (by decide)

theorem SymbolLength.acChrR4S2 (v : BitVec 2) : SymbolLength.Statement (.acChrR4S2 v) :=
  SymbolLength.ofSymbol ⟨.ac, .chr, 4, 2, v.toNat⟩ 11 rfl rfl rfl (by decide) (by decide)

theorem SymbolLength.acChrR4S3 (v : BitVec 3) : SymbolLength.Statement (.acChrR4S3 v) :=
  SymbolLength.ofSymbol ⟨.ac, .chr, 4, 3, v.toNat⟩ 19 rfl rfl rfl (by decide) (by decide)

theorem SymbolLength.acChrR4S4 (v : BitVec 4) : SymbolLength.Statement (.acChrR4S4 v) :=
  SymbolLength.ofSymbol ⟨.ac, .chr, 4, 4, v.toNat⟩ 20 rfl rfl rfl (by decide) (by decide)

theorem SymbolLength.acChrR4S5 (v : BitVec 5) : SymbolLength.Statement (.acChrR4S5 v) :=
  SymbolLength.ofSymbol ⟨.ac, .chr, 4, 5, v.toNat⟩ 21 rfl rfl rfl (by decide) (by decide)

theorem SymbolLength.acChrR4S6 (v : BitVec 6) : SymbolLength.Statement (.acChrR4S6 v) :=
  SymbolLength.ofSymbol ⟨.ac, .chr, 4, 6, v.toNat⟩ 22 rfl rfl rfl (by decide) (by decide)

theorem SymbolLength.acChrR4S7 (v : BitVec 7) : SymbolLength.Statement (.acChrR4S7 v) :=
  SymbolLength.ofSymbol ⟨.ac, .chr, 4, 7, v.toNat⟩ 23 rfl rfl rfl (by decide) (by decide)

theorem SymbolLength.acChrR4S8 (v : BitVec 8) : SymbolLength.Statement (.acChrR4S8 v) :=
  SymbolLength.ofSymbol ⟨.ac, .chr, 4, 8, v.toNat⟩ 24 rfl rfl rfl (by decide) (by decide)

theorem SymbolLength.acChrR4S9 (v : BitVec 9) : SymbolLength.Statement (.acChrR4S9 v) :=
  SymbolLength.ofSymbol ⟨.ac, .chr, 4, 9, v.toNat⟩ 25 rfl rfl rfl (by decide) (by decide)

theorem SymbolLength.acChrR4S10 (v : BitVec 10) : SymbolLength.Statement (.acChrR4S10 v) :=
  SymbolLength.ofSymbol ⟨.ac, .chr, 4, 10, v.toNat⟩ 26 rfl rfl rfl (by decide) (by decide)

theorem SymbolLength.acChrR5S1 (v : BitVec 1) : SymbolLength.Statement (.acChrR5S1 v) :=
  SymbolLength.ofSymbol ⟨.ac, .chr, 5, 1, v.toNat⟩ 7 rfl rfl rfl (by decide) (by decide)

theorem SymbolLength.acChrR5S2 (v : BitVec 2) : SymbolLength.Statement (.acChrR5S2 v) :=
  SymbolLength.ofSymbol ⟨.ac, .chr, 5, 2, v.toNat⟩ 12 rfl rfl rfl (by decide) (by decide)

theorem SymbolLength.acChrR5S3 (v : BitVec 3) : SymbolLength.Statement (.acChrR5S3 v) :=
  SymbolLength.ofSymbol ⟨.ac, .chr, 5, 3, v.toNat⟩ 19 rfl rfl rfl (by decide) (by decide)

theorem SymbolLength.acChrR5S4 (v : BitVec 4) : SymbolLength.Statement (.acChrR5S4 v) :=
  SymbolLength.ofSymbol ⟨.ac, .chr, 5, 4, v.toNat⟩ 20 rfl rfl rfl (by decide) (by decide)

theorem SymbolLength.acChrR5S5 (v : BitVec 5) : SymbolLength.Statement (.acChrR5S5 v) :=
  SymbolLength.ofSymbol ⟨.ac, .chr, 5, 5, v.toNat⟩ 21 rfl rfl rfl (by decide) (by decide)

theorem SymbolLength.acChrR5S6 (v : BitVec 6) : SymbolLength.Statement (.acChrR5S6 v) :=
  SymbolLength.ofSymbol ⟨.ac, .chr, 5, 6, v.toNat⟩ 22 rfl rfl rfl (by decide) (by decide)

theorem SymbolLength.acChrR5S7 (v : BitVec 7) : SymbolLength.Statement (.acChrR5S7 v) :=
  SymbolLength.ofSymbol ⟨.ac, .chr, 5, 7, v.toNat⟩ 23 rfl rfl rfl (by decide) (by decide)

theorem SymbolLength.acChrR5S8 (v : BitVec 8) : SymbolLength.Statement (.acChrR5S8 v) :=
  SymbolLength.ofSymbol ⟨.ac, .chr, 5, 8, v.toNat⟩ 24 rfl rfl rfl (by decide) (by decide)

theorem SymbolLength.acChrR5S9 (v : BitVec 9) : SymbolLength.Statement (.acChrR5S9 v) :=
  SymbolLength.ofSymbol ⟨.ac, .chr, 5, 9, v.toNat⟩ 25 rfl rfl rfl (by decide) (by decide)

theorem SymbolLength.acChrR5S10 (v : BitVec 10) : SymbolLength.Statement (.acChrR5S10 v) :=
  SymbolLength.ofSymbol ⟨.ac, .chr, 5, 10, v.toNat⟩ 26 rfl rfl rfl (by decide) (by decide)

theorem SymbolLength.acChrR6S1 (v : BitVec 1) : SymbolLength.Statement (.acChrR6S1 v) :=
  SymbolLength.ofSymbol ⟨.ac, .chr, 6, 1, v.toNat⟩ 8 rfl rfl rfl (by decide) (by decide)

theorem SymbolLength.acChrR6S2 (v : BitVec 2) : SymbolLength.Statement (.acChrR6S2 v) :=
  SymbolLength.ofSymbol ⟨.ac, .chr, 6, 2, v.toNat⟩ 13 rfl rfl rfl (by decide) (by decide)

theorem SymbolLength.acChrR6S3 (v : BitVec 3) : SymbolLength.Statement (.acChrR6S3 v) :=
  SymbolLength.ofSymbol ⟨.ac, .chr, 6, 3, v.toNat⟩ 19 rfl rfl rfl (by decide) (by decide)

theorem SymbolLength.acChrR6S4 (v : BitVec 4) : SymbolLength.Statement (.acChrR6S4 v) :=
  SymbolLength.ofSymbol ⟨.ac, .chr, 6, 4, v.toNat⟩ 20 rfl rfl rfl (by decide) (by decide)

theorem SymbolLength.acChrR6S5 (v : BitVec 5) : SymbolLength.Statement (.acChrR6S5 v) :=
  SymbolLength.ofSymbol ⟨.ac, .chr, 6, 5, v.toNat⟩ 21 rfl rfl rfl (by decide) (by decide)

theorem SymbolLength.acChrR6S6 (v : BitVec 6) : SymbolLength.Statement (.acChrR6S6 v) :=
  SymbolLength.ofSymbol ⟨.ac, .chr, 6, 6, v.toNat⟩ 22 rfl rfl rfl (by decide) (by decide)

theorem SymbolLength.acChrR6S7 (v : BitVec 7) : SymbolLength.Statement (.acChrR6S7 v) :=
  SymbolLength.ofSymbol ⟨.ac, .chr, 6, 7, v.toNat⟩ 23 rfl rfl rfl (by decide) (by decide)

theorem SymbolLength.acChrR6S8 (v : BitVec 8) : SymbolLength.Statement (.acChrR6S8 v) :=
  SymbolLength.ofSymbol ⟨.ac, .chr, 6, 8, v.toNat⟩ 24 rfl rfl rfl (by decide) (by decide)

theorem SymbolLength.acChrR6S9 (v : BitVec 9) : SymbolLength.Statement (.acChrR6S9 v) :=
  SymbolLength.ofSymbol ⟨.ac, .chr, 6, 9, v.toNat⟩ 25 rfl rfl rfl (by decide) (by decide)

theorem SymbolLength.acChrR6S10 (v : BitVec 10) : SymbolLength.Statement (.acChrR6S10 v) :=
  SymbolLength.ofSymbol ⟨.ac, .chr, 6, 10, v.toNat⟩ 26 rfl rfl rfl (by decide) (by decide)

theorem SymbolLength.acChrR7S1 (v : BitVec 1) : SymbolLength.Statement (.acChrR7S1 v) :=
  SymbolLength.ofSymbol ⟨.ac, .chr, 7, 1, v.toNat⟩ 8 rfl rfl rfl (by decide) (by decide)

theorem SymbolLength.acChrR7S2 (v : BitVec 2) : SymbolLength.Statement (.acChrR7S2 v) :=
  SymbolLength.ofSymbol ⟨.ac, .chr, 7, 2, v.toNat⟩ 13 rfl rfl rfl (by decide) (by decide)

theorem SymbolLength.acChrR7S3 (v : BitVec 3) : SymbolLength.Statement (.acChrR7S3 v) :=
  SymbolLength.ofSymbol ⟨.ac, .chr, 7, 3, v.toNat⟩ 19 rfl rfl rfl (by decide) (by decide)

theorem SymbolLength.acChrR7S4 (v : BitVec 4) : SymbolLength.Statement (.acChrR7S4 v) :=
  SymbolLength.ofSymbol ⟨.ac, .chr, 7, 4, v.toNat⟩ 20 rfl rfl rfl (by decide) (by decide)

theorem SymbolLength.acChrR7S5 (v : BitVec 5) : SymbolLength.Statement (.acChrR7S5 v) :=
  SymbolLength.ofSymbol ⟨.ac, .chr, 7, 5, v.toNat⟩ 21 rfl rfl rfl (by decide) (by decide)

theorem SymbolLength.acChrR7S6 (v : BitVec 6) : SymbolLength.Statement (.acChrR7S6 v) :=
  SymbolLength.ofSymbol ⟨.ac, .chr, 7, 6, v.toNat⟩ 22 rfl rfl rfl (by decide) (by decide)

theorem SymbolLength.acChrR7S7 (v : BitVec 7) : SymbolLength.Statement (.acChrR7S7 v) :=
  SymbolLength.ofSymbol ⟨.ac, .chr, 7, 7, v.toNat⟩ 23 rfl rfl rfl (by decide) (by decide)

theorem SymbolLength.acChrR7S8 (v : BitVec 8) : SymbolLength.Statement (.acChrR7S8 v) :=
  SymbolLength.ofSymbol ⟨.ac, .chr, 7, 8, v.toNat⟩ 24 rfl rfl rfl (by decide) (by decide)

theorem SymbolLength.acChrR7S9 (v : BitVec 9) : SymbolLength.Statement (.acChrR7S9 v) :=
  SymbolLength.ofSymbol ⟨.ac, .chr, 7, 9, v.toNat⟩ 25 rfl rfl rfl (by decide) (by decide)

theorem SymbolLength.acChrR7S10 (v : BitVec 10) : SymbolLength.Statement (.acChrR7S10 v) :=
  SymbolLength.ofSymbol ⟨.ac, .chr, 7, 10, v.toNat⟩ 26 rfl rfl rfl (by decide) (by decide)

theorem SymbolLength.acChrR8S1 (v : BitVec 1) : SymbolLength.Statement (.acChrR8S1 v) :=
  SymbolLength.ofSymbol ⟨.ac, .chr, 8, 1, v.toNat⟩ 9 rfl rfl rfl (by decide) (by decide)

theorem SymbolLength.acChrR8S2 (v : BitVec 2) : SymbolLength.Statement (.acChrR8S2 v) :=
  SymbolLength.ofSymbol ⟨.ac, .chr, 8, 2, v.toNat⟩ 18 rfl rfl rfl (by decide) (by decide)

theorem SymbolLength.acChrR8S3 (v : BitVec 3) : SymbolLength.Statement (.acChrR8S3 v) :=
  SymbolLength.ofSymbol ⟨.ac, .chr, 8, 3, v.toNat⟩ 19 rfl rfl rfl (by decide) (by decide)

theorem SymbolLength.acChrR8S4 (v : BitVec 4) : SymbolLength.Statement (.acChrR8S4 v) :=
  SymbolLength.ofSymbol ⟨.ac, .chr, 8, 4, v.toNat⟩ 20 rfl rfl rfl (by decide) (by decide)

theorem SymbolLength.acChrR8S5 (v : BitVec 5) : SymbolLength.Statement (.acChrR8S5 v) :=
  SymbolLength.ofSymbol ⟨.ac, .chr, 8, 5, v.toNat⟩ 21 rfl rfl rfl (by decide) (by decide)

theorem SymbolLength.acChrR8S6 (v : BitVec 6) : SymbolLength.Statement (.acChrR8S6 v) :=
  SymbolLength.ofSymbol ⟨.ac, .chr, 8, 6, v.toNat⟩ 22 rfl rfl rfl (by decide) (by decide)

theorem SymbolLength.acChrR8S7 (v : BitVec 7) : SymbolLength.Statement (.acChrR8S7 v) :=
  SymbolLength.ofSymbol ⟨.ac, .chr, 8, 7, v.toNat⟩ 23 rfl rfl rfl (by decide) (by decide)

theorem SymbolLength.acChrR8S8 (v : BitVec 8) : SymbolLength.Statement (.acChrR8S8 v) :=
  SymbolLength.ofSymbol ⟨.ac, .chr, 8, 8, v.toNat⟩ 24 rfl rfl rfl (by decide) (by decide)

theorem SymbolLength.acChrR8S9 (v : BitVec 9) : SymbolLength.Statement (.acChrR8S9 v) :=
  SymbolLength.ofSymbol ⟨.ac, .chr, 8, 9, v.toNat⟩ 25 rfl rfl rfl (by decide) (by decide)

theorem SymbolLength.acChrR8S10 (v : BitVec 10) : SymbolLength.Statement (.acChrR8S10 v) :=
  SymbolLength.ofSymbol ⟨.ac, .chr, 8, 10, v.toNat⟩ 26 rfl rfl rfl (by decide) (by decide)

theorem SymbolLength.acChrR9S1 (v : BitVec 1) : SymbolLength.Statement (.acChrR9S1 v) :=
  SymbolLength.ofSymbol ⟨.ac, .chr, 9, 1, v.toNat⟩ 10 rfl rfl rfl (by decide) (by decide)

theorem SymbolLength.acChrR9S2 (v : BitVec 2) : SymbolLength.Statement (.acChrR9S2 v) :=
  SymbolLength.ofSymbol ⟨.ac, .chr, 9, 2, v.toNat⟩ 18 rfl rfl rfl (by decide) (by decide)

theorem SymbolLength.acChrR9S3 (v : BitVec 3) : SymbolLength.Statement (.acChrR9S3 v) :=
  SymbolLength.ofSymbol ⟨.ac, .chr, 9, 3, v.toNat⟩ 19 rfl rfl rfl (by decide) (by decide)

theorem SymbolLength.acChrR9S4 (v : BitVec 4) : SymbolLength.Statement (.acChrR9S4 v) :=
  SymbolLength.ofSymbol ⟨.ac, .chr, 9, 4, v.toNat⟩ 20 rfl rfl rfl (by decide) (by decide)

theorem SymbolLength.acChrR9S5 (v : BitVec 5) : SymbolLength.Statement (.acChrR9S5 v) :=
  SymbolLength.ofSymbol ⟨.ac, .chr, 9, 5, v.toNat⟩ 21 rfl rfl rfl (by decide) (by decide)

theorem SymbolLength.acChrR9S6 (v : BitVec 6) : SymbolLength.Statement (.acChrR9S6 v) :=
  SymbolLength.ofSymbol ⟨.ac, .chr, 9, 6, v.toNat⟩ 22 rfl rfl rfl (by decide) (by decide)

theorem SymbolLength.acChrR9S7 (v : BitVec 7) : SymbolLength.Statement (.acChrR9S7 v) :=
  SymbolLength.ofSymbol ⟨.ac, .chr, 9, 7, v.toNat⟩ 23 rfl rfl rfl (by decide) (by decide)

theorem SymbolLength.acChrR9S8 (v : BitVec 8) : SymbolLength.Statement (.acChrR9S8 v) :=
  SymbolLength.ofSymbol ⟨.ac, .chr, 9, 8, v.toNat⟩ 24 rfl rfl rfl (by decide) (by decide)

theorem SymbolLength.acChrR9S9 (v : BitVec 9) : SymbolLength.Statement (.acChrR9S9 v) :=
  SymbolLength.ofSymbol ⟨.ac, .chr, 9, 9, v.toNat⟩ 25 rfl rfl rfl (by decide) (by decide)

theorem SymbolLength.acChrR9S10 (v : BitVec 10) : SymbolLength.Statement (.acChrR9S10 v) :=
  SymbolLength.ofSymbol ⟨.ac, .chr, 9, 10, v.toNat⟩ 26 rfl rfl rfl (by decide) (by decide)

theorem SymbolLength.acChrR10S1 (v : BitVec 1) : SymbolLength.Statement (.acChrR10S1 v) :=
  SymbolLength.ofSymbol ⟨.ac, .chr, 10, 1, v.toNat⟩ 10 rfl rfl rfl (by decide) (by decide)

theorem SymbolLength.acChrR10S2 (v : BitVec 2) : SymbolLength.Statement (.acChrR10S2 v) :=
  SymbolLength.ofSymbol ⟨.ac, .chr, 10, 2, v.toNat⟩ 18 rfl rfl rfl (by decide) (by decide)

theorem SymbolLength.acChrR10S3 (v : BitVec 3) : SymbolLength.Statement (.acChrR10S3 v) :=
  SymbolLength.ofSymbol ⟨.ac, .chr, 10, 3, v.toNat⟩ 19 rfl rfl rfl (by decide) (by decide)

theorem SymbolLength.acChrR10S4 (v : BitVec 4) : SymbolLength.Statement (.acChrR10S4 v) :=
  SymbolLength.ofSymbol ⟨.ac, .chr, 10, 4, v.toNat⟩ 20 rfl rfl rfl (by decide) (by decide)

theorem SymbolLength.acChrR10S5 (v : BitVec 5) : SymbolLength.Statement (.acChrR10S5 v) :=
  SymbolLength.ofSymbol ⟨.ac, .chr, 10, 5, v.toNat⟩ 21 rfl rfl rfl (by decide) (by decide)

theorem SymbolLength.acChrR10S6 (v : BitVec 6) : SymbolLength.Statement (.acChrR10S6 v) :=
  SymbolLength.ofSymbol ⟨.ac, .chr, 10, 6, v.toNat⟩ 22 rfl rfl rfl (by decide) (by decide)

theorem SymbolLength.acChrR10S7 (v : BitVec 7) : SymbolLength.Statement (.acChrR10S7 v) :=
  SymbolLength.ofSymbol ⟨.ac, .chr, 10, 7, v.toNat⟩ 23 rfl rfl rfl (by decide) (by decide)

theorem SymbolLength.acChrR10S8 (v : BitVec 8) : SymbolLength.Statement (.acChrR10S8 v) :=
  SymbolLength.ofSymbol ⟨.ac, .chr, 10, 8, v.toNat⟩ 24 rfl rfl rfl (by decide) (by decide)

theorem SymbolLength.acChrR10S9 (v : BitVec 9) : SymbolLength.Statement (.acChrR10S9 v) :=
  SymbolLength.ofSymbol ⟨.ac, .chr, 10, 9, v.toNat⟩ 25 rfl rfl rfl (by decide) (by decide)

theorem SymbolLength.acChrR10S10 (v : BitVec 10) : SymbolLength.Statement (.acChrR10S10 v) :=
  SymbolLength.ofSymbol ⟨.ac, .chr, 10, 10, v.toNat⟩ 26 rfl rfl rfl (by decide) (by decide)

theorem SymbolLength.acChrR11S1 (v : BitVec 1) : SymbolLength.Statement (.acChrR11S1 v) :=
  SymbolLength.ofSymbol ⟨.ac, .chr, 11, 1, v.toNat⟩ 10 rfl rfl rfl (by decide) (by decide)

theorem SymbolLength.acChrR11S2 (v : BitVec 2) : SymbolLength.Statement (.acChrR11S2 v) :=
  SymbolLength.ofSymbol ⟨.ac, .chr, 11, 2, v.toNat⟩ 18 rfl rfl rfl (by decide) (by decide)

theorem SymbolLength.acChrR11S3 (v : BitVec 3) : SymbolLength.Statement (.acChrR11S3 v) :=
  SymbolLength.ofSymbol ⟨.ac, .chr, 11, 3, v.toNat⟩ 19 rfl rfl rfl (by decide) (by decide)

theorem SymbolLength.acChrR11S4 (v : BitVec 4) : SymbolLength.Statement (.acChrR11S4 v) :=
  SymbolLength.ofSymbol ⟨.ac, .chr, 11, 4, v.toNat⟩ 20 rfl rfl rfl (by decide) (by decide)

theorem SymbolLength.acChrR11S5 (v : BitVec 5) : SymbolLength.Statement (.acChrR11S5 v) :=
  SymbolLength.ofSymbol ⟨.ac, .chr, 11, 5, v.toNat⟩ 21 rfl rfl rfl (by decide) (by decide)

theorem SymbolLength.acChrR11S6 (v : BitVec 6) : SymbolLength.Statement (.acChrR11S6 v) :=
  SymbolLength.ofSymbol ⟨.ac, .chr, 11, 6, v.toNat⟩ 22 rfl rfl rfl (by decide) (by decide)

theorem SymbolLength.acChrR11S7 (v : BitVec 7) : SymbolLength.Statement (.acChrR11S7 v) :=
  SymbolLength.ofSymbol ⟨.ac, .chr, 11, 7, v.toNat⟩ 23 rfl rfl rfl (by decide) (by decide)

theorem SymbolLength.acChrR11S8 (v : BitVec 8) : SymbolLength.Statement (.acChrR11S8 v) :=
  SymbolLength.ofSymbol ⟨.ac, .chr, 11, 8, v.toNat⟩ 24 rfl rfl rfl (by decide) (by decide)

theorem SymbolLength.acChrR11S9 (v : BitVec 9) : SymbolLength.Statement (.acChrR11S9 v) :=
  SymbolLength.ofSymbol ⟨.ac, .chr, 11, 9, v.toNat⟩ 25 rfl rfl rfl (by decide) (by decide)

theorem SymbolLength.acChrR11S10 (v : BitVec 10) : SymbolLength.Statement (.acChrR11S10 v) :=
  SymbolLength.ofSymbol ⟨.ac, .chr, 11, 10, v.toNat⟩ 26 rfl rfl rfl (by decide) (by decide)

theorem SymbolLength.acChrR12S1 (v : BitVec 1) : SymbolLength.Statement (.acChrR12S1 v) :=
  SymbolLength.ofSymbol ⟨.ac, .chr, 12, 1, v.toNat⟩ 10 rfl rfl rfl (by decide) (by decide)

theorem SymbolLength.acChrR12S2 (v : BitVec 2) : SymbolLength.Statement (.acChrR12S2 v) :=
  SymbolLength.ofSymbol ⟨.ac, .chr, 12, 2, v.toNat⟩ 18 rfl rfl rfl (by decide) (by decide)

theorem SymbolLength.acChrR12S3 (v : BitVec 3) : SymbolLength.Statement (.acChrR12S3 v) :=
  SymbolLength.ofSymbol ⟨.ac, .chr, 12, 3, v.toNat⟩ 19 rfl rfl rfl (by decide) (by decide)

theorem SymbolLength.acChrR12S4 (v : BitVec 4) : SymbolLength.Statement (.acChrR12S4 v) :=
  SymbolLength.ofSymbol ⟨.ac, .chr, 12, 4, v.toNat⟩ 20 rfl rfl rfl (by decide) (by decide)

theorem SymbolLength.acChrR12S5 (v : BitVec 5) : SymbolLength.Statement (.acChrR12S5 v) :=
  SymbolLength.ofSymbol ⟨.ac, .chr, 12, 5, v.toNat⟩ 21 rfl rfl rfl (by decide) (by decide)

theorem SymbolLength.acChrR12S6 (v : BitVec 6) : SymbolLength.Statement (.acChrR12S6 v) :=
  SymbolLength.ofSymbol ⟨.ac, .chr, 12, 6, v.toNat⟩ 22 rfl rfl rfl (by decide) (by decide)

theorem SymbolLength.acChrR12S7 (v : BitVec 7) : SymbolLength.Statement (.acChrR12S7 v) :=
  SymbolLength.ofSymbol ⟨.ac, .chr, 12, 7, v.toNat⟩ 23 rfl rfl rfl (by decide) (by decide)

theorem SymbolLength.acChrR12S8 (v : BitVec 8) : SymbolLength.Statement (.acChrR12S8 v) :=
  SymbolLength.ofSymbol ⟨.ac, .chr, 12, 8, v.toNat⟩ 24 rfl rfl rfl (by decide) (by decide)

theorem SymbolLength.acChrR12S9 (v : BitVec 9) : SymbolLength.Statement (.acChrR12S9 v) :=
  SymbolLength.ofSymbol ⟨.ac, .chr, 12, 9, v.toNat⟩ 25 rfl rfl rfl (by decide) (by decide)

theorem SymbolLength.acChrR12S10 (v : BitVec 10) : SymbolLength.Statement (.acChrR12S10 v) :=
  SymbolLength.ofSymbol ⟨.ac, .chr, 12, 10, v.toNat⟩ 26 rfl rfl rfl (by decide) (by decide)

theorem SymbolLength.acChrR13S1 (v : BitVec 1) : SymbolLength.Statement (.acChrR13S1 v) :=
  SymbolLength.ofSymbol ⟨.ac, .chr, 13, 1, v.toNat⟩ 12 rfl rfl rfl (by decide) (by decide)

theorem SymbolLength.acChrR13S2 (v : BitVec 2) : SymbolLength.Statement (.acChrR13S2 v) :=
  SymbolLength.ofSymbol ⟨.ac, .chr, 13, 2, v.toNat⟩ 18 rfl rfl rfl (by decide) (by decide)

theorem SymbolLength.acChrR13S3 (v : BitVec 3) : SymbolLength.Statement (.acChrR13S3 v) :=
  SymbolLength.ofSymbol ⟨.ac, .chr, 13, 3, v.toNat⟩ 19 rfl rfl rfl (by decide) (by decide)

theorem SymbolLength.acChrR13S4 (v : BitVec 4) : SymbolLength.Statement (.acChrR13S4 v) :=
  SymbolLength.ofSymbol ⟨.ac, .chr, 13, 4, v.toNat⟩ 20 rfl rfl rfl (by decide) (by decide)

theorem SymbolLength.acChrR13S5 (v : BitVec 5) : SymbolLength.Statement (.acChrR13S5 v) :=
  SymbolLength.ofSymbol ⟨.ac, .chr, 13, 5, v.toNat⟩ 21 rfl rfl rfl (by decide) (by decide)

theorem SymbolLength.acChrR13S6 (v : BitVec 6) : SymbolLength.Statement (.acChrR13S6 v) :=
  SymbolLength.ofSymbol ⟨.ac, .chr, 13, 6, v.toNat⟩ 22 rfl rfl rfl (by decide) (by decide)

theorem SymbolLength.acChrR13S7 (v : BitVec 7) : SymbolLength.Statement (.acChrR13S7 v) :=
  SymbolLength.ofSymbol ⟨.ac, .chr, 13, 7, v.toNat⟩ 23 rfl rfl rfl (by decide) (by decide)

theorem SymbolLength.acChrR13S8 (v : BitVec 8) : SymbolLength.Statement (.acChrR13S8 v) :=
  SymbolLength.ofSymbol ⟨.ac, .chr, 13, 8, v.toNat⟩ 24 rfl rfl rfl (by decide) (by decide)

theorem SymbolLength.acChrR13S9 (v : BitVec 9) : SymbolLength.Statement (.acChrR13S9 v) :=
  SymbolLength.ofSymbol ⟨.ac, .chr, 13, 9, v.toNat⟩ 25 rfl rfl rfl (by decide) (by decide)

theorem SymbolLength.acChrR13S10 (v : BitVec 10) : SymbolLength.Statement (.acChrR13S10 v) :=
  SymbolLength.ofSymbol ⟨.ac, .chr, 13, 10, v.toNat⟩ 26 rfl rfl rfl (by decide) (by decide)

theorem SymbolLength.acChrR14S1 (v : BitVec 1) : SymbolLength.Statement (.acChrR14S1 v) :=
  SymbolLength.ofSymbol ⟨.ac, .chr, 14, 1, v.toNat⟩ 15 rfl rfl rfl (by decide) (by decide)

theorem SymbolLength.acChrR14S2 (v : BitVec 2) : SymbolLength.Statement (.acChrR14S2 v) :=
  SymbolLength.ofSymbol ⟨.ac, .chr, 14, 2, v.toNat⟩ 18 rfl rfl rfl (by decide) (by decide)

theorem SymbolLength.acChrR14S3 (v : BitVec 3) : SymbolLength.Statement (.acChrR14S3 v) :=
  SymbolLength.ofSymbol ⟨.ac, .chr, 14, 3, v.toNat⟩ 19 rfl rfl rfl (by decide) (by decide)

theorem SymbolLength.acChrR14S4 (v : BitVec 4) : SymbolLength.Statement (.acChrR14S4 v) :=
  SymbolLength.ofSymbol ⟨.ac, .chr, 14, 4, v.toNat⟩ 20 rfl rfl rfl (by decide) (by decide)

theorem SymbolLength.acChrR14S5 (v : BitVec 5) : SymbolLength.Statement (.acChrR14S5 v) :=
  SymbolLength.ofSymbol ⟨.ac, .chr, 14, 5, v.toNat⟩ 21 rfl rfl rfl (by decide) (by decide)

theorem SymbolLength.acChrR14S6 (v : BitVec 6) : SymbolLength.Statement (.acChrR14S6 v) :=
  SymbolLength.ofSymbol ⟨.ac, .chr, 14, 6, v.toNat⟩ 22 rfl rfl rfl (by decide) (by decide)

theorem SymbolLength.acChrR14S7 (v : BitVec 7) : SymbolLength.Statement (.acChrR14S7 v) :=
  SymbolLength.ofSymbol ⟨.ac, .chr, 14, 7, v.toNat⟩ 23 rfl rfl rfl (by decide) (by decide)

theorem SymbolLength.acChrR14S8 (v : BitVec 8) : SymbolLength.Statement (.acChrR14S8 v) :=
  SymbolLength.ofSymbol ⟨.ac, .chr, 14, 8, v.toNat⟩ 24 rfl rfl rfl (by decide) (by decide)

theorem SymbolLength.acChrR14S9 (v : BitVec 9) : SymbolLength.Statement (.acChrR14S9 v) :=
  SymbolLength.ofSymbol ⟨.ac, .chr, 14, 9, v.toNat⟩ 25 rfl rfl rfl (by decide) (by decide)

theorem SymbolLength.acChrR14S10 (v : BitVec 10) : SymbolLength.Statement (.acChrR14S10 v) :=
  SymbolLength.ofSymbol ⟨.ac, .chr, 14, 10, v.toNat⟩ 26 rfl rfl rfl (by decide) (by decide)

theorem SymbolLength.acChrZrl : SymbolLength.Statement .acChrZrl :=
  SymbolLength.ofSymbol ⟨.ac, .chr, 15, 0, 0⟩ 10 rfl rfl rfl (by decide) (by decide)

theorem SymbolLength.acChrR15S1 (v : BitVec 1) : SymbolLength.Statement (.acChrR15S1 v) :=
  SymbolLength.ofSymbol ⟨.ac, .chr, 15, 1, v.toNat⟩ 16 rfl rfl rfl (by decide) (by decide)

theorem SymbolLength.acChrR15S2 (v : BitVec 2) : SymbolLength.Statement (.acChrR15S2 v) :=
  SymbolLength.ofSymbol ⟨.ac, .chr, 15, 2, v.toNat⟩ 18 rfl rfl rfl (by decide) (by decide)

theorem SymbolLength.acChrR15S3 (v : BitVec 3) : SymbolLength.Statement (.acChrR15S3 v) :=
  SymbolLength.ofSymbol ⟨.ac, .chr, 15, 3, v.toNat⟩ 19 rfl rfl rfl (by decide) (by decide)

theorem SymbolLength.acChrR15S4 (v : BitVec 4) : SymbolLength.Statement (.acChrR15S4 v) :=
  SymbolLength.ofSymbol ⟨.ac, .chr, 15, 4, v.toNat⟩ 20 rfl rfl rfl (by decide) (by decide)

theorem SymbolLength.acChrR15S5 (v : BitVec 5) : SymbolLength.Statement (.acChrR15S5 v) :=
  SymbolLength.ofSymbol ⟨.ac, .chr, 15, 5, v.toNat⟩ 21 rfl rfl rfl (by decide) (by decide)

theorem SymbolLength.acChrR15S6 (v : BitVec 6) : SymbolLength.Statement (.acChrR15S6 v) :=
  SymbolLength.ofSymbol ⟨.ac, .chr, 15, 6, v.toNat⟩ 22 rfl rfl rfl (by decide) (by decide)

theorem SymbolLength.acChrR15S7 (v : BitVec 7) : SymbolLength.Statement (.acChrR15S7 v) :=
  SymbolLength.ofSymbol ⟨.ac, .chr, 15, 7, v.toNat⟩ 23 rfl rfl rfl (by decide) (by decide)

theorem SymbolLength.acChrR15S8 (v : BitVec 8) : SymbolLength.Statement (.acChrR15S8 v) :=
  SymbolLength.ofSymbol ⟨.ac, .chr, 15, 8, v.toNat⟩ 24 rfl rfl rfl (by decide) (by decide)

theorem SymbolLength.acChrR15S9 (v : BitVec 9) : SymbolLength.Statement (.acChrR15S9 v) :=
  SymbolLength.ofSymbol ⟨.ac, .chr, 15, 9, v.toNat⟩ 25 rfl rfl rfl (by decide) (by decide)

theorem SymbolLength.acChrR15S10 (v : BitVec 10) : SymbolLength.Statement (.acChrR15S10 v) :=
  SymbolLength.ofSymbol ⟨.ac, .chr, 15, 10, v.toNat⟩ 26 rfl rfl rfl (by decide) (by decide)

end Sys2Proof.Laws
end

