-- ==== Sys2Proof/Machine/Assembler.lean ====
section
/-! DEFINITION. The assembler: one line of text to the commands it stands for (30_encoding R96, R97). The host's notation
for the command stream; no step of the CORE. -/

namespace Sys2Proof.Machine

/-- A decimal integer, at least one digit (30_encoding R96). -/
def parseNat (t : List Char) : Option Nat :=
  if t.isEmpty then none
  else t.foldl (fun acc c => acc.bind fun n => if c.isDigit then some (10 * n + (c.toNat - 48)) else none) (some 0)

/-- A layer operand: `LUM` or `CHR`, or `0`, `1` (30_encoding R96). -/
def parseLayer (t : String) : Option Layer :=
  match t with
  | "LUM" => some .lum
  | "0" => some .lum
  | "CHR" => some .chr
  | "1" => some .chr
  | _ => none

/-- A grey flag: `0` or `1` (30_encoding R96). -/
def parseGrey (t : String) : Option Bool :=
  match t with
  | "0" => some false
  | "1" => some true
  | _ => none

/-- A quality: a decimal integer `0..127` (30_encoding R96). -/
def parseQuality (t : String) : Option Nat :=
  (parseNat t.toList).bind fun q => if q < 128 then some q else none

/-- The words of a line, a comma being a word of its own. -/
def lineWords (line : List Char) : List String :=
  let pieces := line.foldr (fun c acc =>
    if c = ' ' then [] :: acc
    else if c = ',' then [] :: [','] :: acc
    else match acc with
      | [] => [[c]]
      | t :: ts => (c :: t) :: ts) [[]]
  (pieces.filter fun t => !t.isEmpty).map String.ofList

/-- A command without an operand (30_encoding R93, format `N`). -/
def parsePlain (m : String) : Option Instr :=
  match m with
  | "NOP" => some .nop
  | "CLR" => some .clr
  | "LDX" => some .ldx
  | "STX" => some .stx
  | "FDCT" => some .fdct
  | "IDCT" => some .idct
  | "ZZ" => some .zz
  | "IZZ" => some .izz
  | "RLE" => some .rle
  | "RLD" => some .rld
  | "PACK" => some .pack
  | "SLICE" => some .slice
  | _ => none

/-- A command with an operand (30_encoding R93, formats `L`, `G`, `Q`). -/
def parseOperand (m o : String) : Option Instr :=
  match m with
  | "CFGQ" => (parseQuality o).map .cfgq
  | "CFGG" => (parseGrey o).map .cfgg
  | "QNT" => (parseLayer o).map .qnt
  | "DQT" => (parseLayer o).map .dqt
  | "DCE" => (parseLayer o).map .dce
  | "DCD" => (parseLayer o).map .dcd
  | "HEDC" => (parseLayer o).map .hedc
  | "HEAC" => (parseLayer o).map .heac
  | "HDDC" => (parseLayer o).map .hddc
  | "HDAC" => (parseLayer o).map .hdac
  | "ENCBLK" => (parseLayer o).map .encblk
  | "DECBLK" => (parseLayer o).map .decblk
  | _ => none

/-- A pseudo-instruction with its two operands (30_encoding R97). -/
def parsePseudo (m a b : String) : Option (List Instr) :=
  match m with
  | "BEGIN" => (parseQuality a).bind fun q => (parseGrey b).map fun g => pseudoBegin q g
  | "ENCBLKS" => (parseLayer a).bind fun l => (parseNat b.toList).map fun n => pseudoEncblks l n
  | "DECBLKS" => (parseLayer a).bind fun l => (parseNat b.toList).map fun n => pseudoDecblks l n
  | _ => none

/-- The commands of a line, `none` where it is no line of the syntax; a line of nothing but a comment has none
(30_encoding R96, R97). -/
def assembleLine (line : String) : Option (List Instr) :=
  match lineWords (line.toList.takeWhile (· != ';')) with
  | [] => some []
  | [m] => (parsePlain m).map fun i => [i]
  | [m, o] => (parseOperand m o).map fun i => [i]
  | [m, a, ",", b] => parsePseudo m a b
  | _ => none

end Sys2Proof.Machine
end

