-- ==== Sys2Proof/Tests/Slice0.lean ====
section
/-! SUPPORT. Tests: the well-formedness smoke, the decoding of a word of every constructor written from the spec's encodings,
the spec's worked examples (95_test_vectors and the rules' own), and for every statement with hypotheses a state and operands
that meet them. -/

namespace Sys2Proof.Tests

set_option Elab.async false

open Sys2Proof Sys2Proof.Machine

/-! Helpers. -/

/-- The bits a string writes. -/
def bitString (t : String) : Bits :=
  t.toList.map fun c => c == '1'

/-- The state after an instruction. -/
def after (i : Instr) (s : State) : State :=
  match exec i s with
  | .next t => t
  | _ => s

/-- The answer is a next state that is not `FAULTED`. -/
def completes (r : Result) : Bool :=
  match r with
  | .next t => !t.faulted
  | _ => false

theorem exists_of_completes {r : Result} (h : completes r = true) : ∃ u, r = .next u ∧ u.faulted = false := by
  cases r with
  | next t => exact ⟨t, rfl, by simpa [completes] using h⟩
  | fault f => cases f
  | refused f => simp [completes] at h

/-- `STATUS` and `ERRINFO`. -/
def report (s : State) : Nat × Int :=
  (s.statusWord.toNat, s.errInfo)

/-- The reset state with bits in one segment. -/
def withSeg (k : Fin 4) (t : String) : State :=
  { State.reset with mem := { State.reset.mem with seg := State.reset.mem.seg.set k (bitString t) } }

/-- A constant block. -/
def flat (q : ℚ) : Block NUM :=
  blockConst (NUM.ofRat q)

/-- A block of integers with the given raster entries, 0 elsewhere. -/
def sparse (entries : List (Nat × Int)) : Block Int :=
  Vector.ofFn fun k => ((entries.find? fun e => e.1 == k.val).map fun e => e.2).getD 0

/-- The sequence with `ZQ[0] = 0` and the given AC coefficients. -/
def acSequence (ac : List Int) : Vector Int 64 :=
  Vector.ofFn fun k => if k.val = 0 then 0 else ac.getD (k.val - 1) 0

/-- `n` zeros. -/
def zeros (n : Nat) : List Int :=
  List.replicate n 0

/-- The RL of 44_rle_coder R181's and 45_huffman R210's examples: (0,-2), (0,-12), (6,-1), EOB. -/
def rampPairs : List Pair :=
  [⟨0, -2⟩, ⟨0, -12⟩, ⟨6, -1⟩, eob]

/-! Well-formedness (30_encoding R92): the quality field holds 0 to 127. -/

theorem test_wellFormed_cfgq : (Instr.cfgq 127).wellFormed = true := by decide

theorem test_illFormed_cfgq : (Instr.cfgq 128).wellFormed = false := by decide

/-! Decoding of command words (30_encoding R93, written out from its opcodes and formats). -/

theorem test_decode_housekeeping :
    [0b0000000000000000#16, 0b0000000100000000#16, 0b0000001000110010#16, 0b0000001001111111#16, 0b0000001100000000#16,
      0b0000001100000001#16].map decodeWord =
    [some .nop, some .clr, some (.cfgq 50), some (.cfgq 127), some (.cfgg false), some (.cfgg true)] := by
  rfl

theorem test_decode_ports :
    [0b0000100000000000#16, 0b0000100100000000#16].map decodeWord = [some .ldx, some .stx] := by
  rfl

theorem test_decode_transform_quantizer :
    [0b0001000000000000#16, 0b0001000100000000#16, 0b0001001000000000#16, 0b0001001000000001#16, 0b0001001100000000#16,
      0b0001001100000001#16].map decodeWord =
    [some .fdct, some .idct, some (.qnt .lum), some (.qnt .chr), some (.dqt .lum), some (.dqt .chr)] := by
  rfl

theorem test_decode_zigzag_dc :
    [0b0001010000000000#16, 0b0001010100000000#16, 0b0001100000000000#16, 0b0001100000000001#16, 0b0001100100000000#16,
      0b0001100100000001#16].map decodeWord =
    [some .zz, some .izz, some (.dce .lum), some (.dce .chr), some (.dcd .lum), some (.dcd .chr)] := by
  rfl

theorem test_decode_runLength_huffman :
    [0b0001101000000000#16, 0b0001101100000000#16, 0b0010000000000001#16, 0b0010000100000001#16, 0b0010001000000001#16,
      0b0010001100000001#16].map decodeWord =
    [some .rle, some .rld, some (.hedc .chr), some (.heac .chr), some (.hddc .chr), some (.hdac .chr)] := by
  rfl

theorem test_decode_packer_composite :
    [0b0010100000000000#16, 0b0010100100000000#16, 0b0011000000000001#16, 0b0011000100000000#16].map decodeWord =
    [some .pack, some .slice, some (.encblk .chr), some (.decblk .lum)] := by
  rfl

/-- The reserved words of 95_test_vectors X2. -/
theorem test_decode_reserved :
    [0x0001#16, 0x0101#16, 0x0280#16, 0x0302#16, 0x0400#16, 0x0A00#16, 0x1202#16, 0x1601#16, 0x1C00#16, 0x2400#16,
      0x2801#16, 0x3002#16, 0x3200#16, 0xFFFF#16].all (fun w => (decodeWord w).isNone) = true := by
  decide

/-! Decoding of symbols: one bit string for each of the 348, its codeword from 46_huffman_tables R232 to R235 as
opcode_table.json has it, then the literal `100…` (30_encoding R99). The string reads as the constructor's symbol, all of its
bits, and the symbol gives back the constructor. -/

/-- The answer of the symbol reader that is this symbol, of all its bits. -/
def readAs (i : Instr) : Except SymbolFault (Symbol × Nat) :=
  match i.symbol? with
  | some y => .ok (y, (encode HTables.default i).length)
  | none => .error .noMatch

/-- The instructions of these rows, each with the literal `100…`. -/
def instrsDcLum : List Instr :=
  [
    .dcLumS0, .dcLumS1 1, .dcLumS2 2, .dcLumS3 4, .dcLumS4 8, .dcLumS5 16, .dcLumS6 32, .dcLumS7 64, .dcLumS8 128,
    .dcLumS9 256, .dcLumS10 512, .dcLumS11 1024]

theorem test_decode_dcLum :
    (([
      "00", "0101", "01110", "100100", "1011000", "11010000", "1110100000", "111101000000", "11111010000000",
      "1111110100000000", "111111101000000000", "11111111010000000000"] :
        List String).map fun t => readSymbol HTables.default .dc .lum (bitString t)) = instrsDcLum.map readAs ∧
      (instrsDcLum.map fun i => i.symbol?.bind Symbol.instr?) = instrsDcLum.map some :=
  ⟨by decide +kernel, by rfl⟩

/-- The instructions of these rows, each with the literal `100…`. -/
def instrsDcChr : List Instr :=
  [
    .dcChrS0, .dcChrS1 1, .dcChrS2 2, .dcChrS3 4, .dcChrS4 8, .dcChrS5 16, .dcChrS6 32, .dcChrS7 64, .dcChrS8 128,
    .dcChrS9 256, .dcChrS10 512, .dcChrS11 1024]

theorem test_decode_dcChr :
    (([
      "00", "011", "1010", "110100", "11101000", "1111010000", "111110100000", "11111101000000",
      "1111111010000000", "111111110100000000", "11111111101000000000", "1111111111010000000000"] :
        List String).map fun t => readSymbol HTables.default .dc .chr (bitString t)) = instrsDcChr.map readAs ∧
      (instrsDcChr.map fun i => i.symbol?.bind Symbol.instr?) = instrsDcChr.map some :=
  ⟨by decide +kernel, by rfl⟩

/-- The instructions of these rows, each with the literal `100…`. -/
def instrsAcLum0 : List Instr :=
  [
    .acLumEob, .acLumR0S1 1, .acLumR0S2 2, .acLumR0S3 4, .acLumR0S4 8, .acLumR0S5 16, .acLumR0S6 32, .acLumR0S7 64,
    .acLumR0S8 128, .acLumR0S9 256, .acLumR0S10 512]

theorem test_decode_acLum0 :
    (([
      "1010", "001", "0110", "100100", "10111000", "1101010000", "1111000100000", "111110001000000",
      "111111011010000000", "1111111110000010100000000", "11111111100000111000000000"] :
        List String).map fun t => readSymbol HTables.default .ac .lum (bitString t)) = instrsAcLum0.map readAs ∧
      (instrsAcLum0.map fun i => i.symbol?.bind Symbol.instr?) = instrsAcLum0.map some :=
  ⟨by decide +kernel, by rfl⟩

/-- The instructions of these rows, each with the literal `100…`. -/
def instrsAcLum1 : List Instr :=
  [
    .acLumR1S1 1, .acLumR1S2 2, .acLumR1S3 4, .acLumR1S4 8, .acLumR1S5 16, .acLumR1S6 32, .acLumR1S7 64,
    .acLumR1S8 128, .acLumR1S9 256, .acLumR1S10 512]

theorem test_decode_acLum1 :
    (([
      "11001", "1101110", "1111001100", "1111101101000", "1111111011010000", "1111111110000100100000",
      "11111111100001011000000", "111111111000011010000000", "1111111110000111100000000",
      "11111111100010001000000000"] :
        List String).map fun t => readSymbol HTables.default .ac .lum (bitString t)) = instrsAcLum1.map readAs ∧
      (instrsAcLum1.map fun i => i.symbol?.bind Symbol.instr?) = instrsAcLum1.map some :=
  ⟨by decide +kernel, by rfl⟩

/-- The instructions of these rows, each with the literal `100…`. -/
def instrsAcLum2 : List Instr :=
  [
    .acLumR2S1 1, .acLumR2S2 2, .acLumR2S3 4, .acLumR2S4 8, .acLumR2S5 16, .acLumR2S6 32, .acLumR2S7 64,
    .acLumR2S8 128, .acLumR2S9 256, .acLumR2S10 512]

theorem test_decode_acLum2 :
    (([
      "111001", "1111100110", "1111110111100", "1111111101001000", "111111111000100110000",
      "1111111110001010100000", "11111111100010111000000", "111111111000110010000000", "1111111110001101100000000",
      "11111111100011101000000000"] :
        List String).map fun t => readSymbol HTables.default .ac .lum (bitString t)) = instrsAcLum2.map readAs ∧
      (instrsAcLum2.map fun i => i.symbol?.bind Symbol.instr?) = instrsAcLum2.map some :=
  ⟨by decide +kernel, by rfl⟩

/-- The instructions of these rows, each with the literal `100…`. -/
def instrsAcLum3 : List Instr :=
  [
    .acLumR3S1 1, .acLumR3S2 2, .acLumR3S3 4, .acLumR3S4 8, .acLumR3S5 16, .acLumR3S6 32, .acLumR3S7 64,
    .acLumR3S8 128, .acLumR3S9 256, .acLumR3S10 512]

theorem test_decode_acLum3 :
    (([
      "1110101", "11111011110", "111111110101100", "11111111100011111000", "111111111001000010000",
      "1111111110010001100000", "11111111100100101000000", "111111111001001110000000", "1111111110010100100000000",
      "11111111100101011000000000"] :
        List String).map fun t => readSymbol HTables.default .ac .lum (bitString t)) = instrsAcLum3.map readAs ∧
      (instrsAcLum3.map fun i => i.symbol?.bind Symbol.instr?) = instrsAcLum3.map some :=
  ⟨by decide +kernel, by rfl⟩

/-- The instructions of these rows, each with the literal `100…`. -/
def instrsAcLum4 : List Instr :=
  [
    .acLumR4S1 1, .acLumR4S2 2, .acLumR4S3 4, .acLumR4S4 8, .acLumR4S5 16, .acLumR4S6 32, .acLumR4S7 64,
    .acLumR4S8 128, .acLumR4S9 256, .acLumR4S10 512]

theorem test_decode_acLum4 :
    (([
      "1110111", "111111100010", "1111111110010110100", "11111111100101111000", "111111111001100010000",
      "1111111110011001100000", "11111111100110101000000", "111111111001101110000000", "1111111110011100100000000",
      "11111111100111011000000000"] :
        List String).map fun t => readSymbol HTables.default .ac .lum (bitString t)) = instrsAcLum4.map readAs ∧
      (instrsAcLum4.map fun i => i.symbol?.bind Symbol.instr?) = instrsAcLum4.map some :=
  ⟨by decide +kernel, by rfl⟩

/-- The instructions of these rows, each with the literal `100…`. -/
def instrsAcLum5 : List Instr :=
  [
    .acLumR5S1 1, .acLumR5S2 2, .acLumR5S3 4, .acLumR5S4 8, .acLumR5S5 16, .acLumR5S6 32, .acLumR5S7 64,
    .acLumR5S8 128, .acLumR5S9 256, .acLumR5S10 512]

theorem test_decode_acLum5 :
    (([
      "11110101", "1111111011110", "1111111110011110100", "11111111100111111000", "111111111010000010000",
      "1111111110100001100000", "11111111101000101000000", "111111111010001110000000", "1111111110100100100000000",
      "11111111101001011000000000"] :
        List String).map fun t => readSymbol HTables.default .ac .lum (bitString t)) = instrsAcLum5.map readAs ∧
      (instrsAcLum5.map fun i => i.symbol?.bind Symbol.instr?) = instrsAcLum5.map some :=
  ⟨by decide +kernel, by rfl⟩

/-- The instructions of these rows, each with the literal `100…`. -/
def instrsAcLum6 : List Instr :=
  [
    .acLumR6S1 1, .acLumR6S2 2, .acLumR6S3 4, .acLumR6S4 8, .acLumR6S5 16, .acLumR6S6 32, .acLumR6S7 64,
    .acLumR6S8 128, .acLumR6S9 256, .acLumR6S10 512]

theorem test_decode_acLum6 :
    (([
      "11110111", "11111111011010", "1111111110100110100", "11111111101001111000", "111111111010100010000",
      "1111111110101001100000", "11111111101010101000000", "111111111010101110000000", "1111111110101100100000000",
      "11111111101011011000000000"] :
        List String).map fun t => readSymbol HTables.default .ac .lum (bitString t)) = instrsAcLum6.map readAs ∧
      (instrsAcLum6.map fun i => i.symbol?.bind Symbol.instr?) = instrsAcLum6.map some :=
  ⟨by decide +kernel, by rfl⟩

/-- The instructions of these rows, each with the literal `100…`. -/
def instrsAcLum7 : List Instr :=
  [
    .acLumR7S1 1, .acLumR7S2 2, .acLumR7S3 4, .acLumR7S4 8, .acLumR7S5 16, .acLumR7S6 32, .acLumR7S7 64,
    .acLumR7S8 128, .acLumR7S9 256, .acLumR7S10 512]

theorem test_decode_acLum7 :
    (([
      "111110101", "11111111011110", "1111111110101110100", "11111111101011111000", "111111111011000010000",
      "1111111110110001100000", "11111111101100101000000", "111111111011001110000000", "1111111110110100100000000",
      "11111111101101011000000000"] :
        List String).map fun t => readSymbol HTables.default .ac .lum (bitString t)) = instrsAcLum7.map readAs ∧
      (instrsAcLum7.map fun i => i.symbol?.bind Symbol.instr?) = instrsAcLum7.map some :=
  ⟨by decide +kernel, by rfl⟩

/-- The instructions of these rows, each with the literal `100…`. -/
def instrsAcLum8 : List Instr :=
  [
    .acLumR8S1 1, .acLumR8S2 2, .acLumR8S3 4, .acLumR8S4 8, .acLumR8S5 16, .acLumR8S6 32, .acLumR8S7 64,
    .acLumR8S8 128, .acLumR8S9 256, .acLumR8S10 512]

theorem test_decode_acLum8 :
    (([
      "1111110001", "11111111100000010", "1111111110110110100", "11111111101101111000", "111111111011100010000",
      "1111111110111001100000", "11111111101110101000000", "111111111011101110000000", "1111111110111100100000000",
      "11111111101111011000000000"] :
        List String).map fun t => readSymbol HTables.default .ac .lum (bitString t)) = instrsAcLum8.map readAs ∧
      (instrsAcLum8.map fun i => i.symbol?.bind Symbol.instr?) = instrsAcLum8.map some :=
  ⟨by decide +kernel, by rfl⟩

/-- The instructions of these rows, each with the literal `100…`. -/
def instrsAcLum9 : List Instr :=
  [
    .acLumR9S1 1, .acLumR9S2 2, .acLumR9S3 4, .acLumR9S4 8, .acLumR9S5 16, .acLumR9S6 32, .acLumR9S7 64,
    .acLumR9S8 128, .acLumR9S9 256, .acLumR9S10 512]

theorem test_decode_acLum9 :
    (([
      "1111110011", "111111111011111010", "1111111110111111100", "11111111110000001000", "111111111100000110000",
      "1111111111000010100000", "11111111110000111000000", "111111111100010010000000", "1111111111000101100000000",
      "11111111110001101000000000"] :
        List String).map fun t => readSymbol HTables.default .ac .lum (bitString t)) = instrsAcLum9.map readAs ∧
      (instrsAcLum9.map fun i => i.symbol?.bind Symbol.instr?) = instrsAcLum9.map some :=
  ⟨by decide +kernel, by rfl⟩

/-- The instructions of these rows, each with the literal `100…`. -/
def instrsAcLum10 : List Instr :=
  [
    .acLumR10S1 1, .acLumR10S2 2, .acLumR10S3 4, .acLumR10S4 8, .acLumR10S5 16, .acLumR10S6 32, .acLumR10S7 64,
    .acLumR10S8 128, .acLumR10S9 256, .acLumR10S10 512]

theorem test_decode_acLum10 :
    (([
      "1111110101", "111111111100011110", "1111111111001000100", "11111111110010011000", "111111111100101010000",
      "1111111111001011100000", "11111111110011001000000", "111111111100110110000000", "1111111111001110100000000",
      "11111111110011111000000000"] :
        List String).map fun t => readSymbol HTables.default .ac .lum (bitString t)) = instrsAcLum10.map readAs ∧
      (instrsAcLum10.map fun i => i.symbol?.bind Symbol.instr?) = instrsAcLum10.map some :=
  ⟨by decide +kernel, by rfl⟩

/-- The instructions of these rows, each with the literal `100…`. -/
def instrsAcLum11 : List Instr :=
  [
    .acLumR11S1 1, .acLumR11S2 2, .acLumR11S3 4, .acLumR11S4 8, .acLumR11S5 16, .acLumR11S6 32, .acLumR11S7 64,
    .acLumR11S8 128, .acLumR11S9 256, .acLumR11S10 512]

theorem test_decode_acLum11 :
    (([
      "11111110011", "111111111101000010", "1111111111010001100", "11111111110100101000", "111111111101001110000",
      "1111111111010100100000", "11111111110101011000000", "111111111101011010000000", "1111111111010111100000000",
      "11111111110110001000000000"] :
        List String).map fun t => readSymbol HTables.default .ac .lum (bitString t)) = instrsAcLum11.map readAs ∧
      (instrsAcLum11.map fun i => i.symbol?.bind Symbol.instr?) = instrsAcLum11.map some :=
  ⟨by decide +kernel, by rfl⟩

/-- The instructions of these rows, each with the literal `100…`. -/
def instrsAcLum12 : List Instr :=
  [
    .acLumR12S1 1, .acLumR12S2 2, .acLumR12S3 4, .acLumR12S4 8, .acLumR12S5 16, .acLumR12S6 32, .acLumR12S7 64,
    .acLumR12S8 128, .acLumR12S9 256, .acLumR12S10 512]

theorem test_decode_acLum12 :
    (([
      "11111110101", "111111111101100110", "1111111111011010100", "11111111110110111000", "111111111101110010000",
      "1111111111011101100000", "11111111110111101000000", "111111111101111110000000", "1111111111100000100000000",
      "11111111111000011000000000"] :
        List String).map fun t => readSymbol HTables.default .ac .lum (bitString t)) = instrsAcLum12.map readAs ∧
      (instrsAcLum12.map fun i => i.symbol?.bind Symbol.instr?) = instrsAcLum12.map some :=
  ⟨by decide +kernel, by rfl⟩

/-- The instructions of these rows, each with the literal `100…`. -/
def instrsAcLum13 : List Instr :=
  [
    .acLumR13S1 1, .acLumR13S2 2, .acLumR13S3 4, .acLumR13S4 8, .acLumR13S5 16, .acLumR13S6 32, .acLumR13S7 64,
    .acLumR13S8 128, .acLumR13S9 256, .acLumR13S10 512]

theorem test_decode_acLum13 :
    (([
      "111111110001", "111111111110001010", "1111111111100011100", "11111111111001001000", "111111111110010110000",
      "1111111111100110100000", "11111111111001111000000", "111111111110100010000000", "1111111111101001100000000",
      "11111111111010101000000000"] :
        List String).map fun t => readSymbol HTables.default .ac .lum (bitString t)) = instrsAcLum13.map readAs ∧
      (instrsAcLum13.map fun i => i.symbol?.bind Symbol.instr?) = instrsAcLum13.map some :=
  ⟨by decide +kernel, by rfl⟩

/-- The instructions of these rows, each with the literal `100…`. -/
def instrsAcLum14 : List Instr :=
  [
    .acLumR14S1 1, .acLumR14S2 2, .acLumR14S3 4, .acLumR14S4 8, .acLumR14S5 16, .acLumR14S6 32, .acLumR14S7 64,
    .acLumR14S8 128, .acLumR14S9 256, .acLumR14S10 512]

theorem test_decode_acLum14 :
    (([
      "11111111111010111", "111111111110110010", "1111111111101101100", "11111111111011101000",
      "111111111110111110000", "1111111111110000100000", "11111111111100011000000", "111111111111001010000000",
      "1111111111110011100000000", "11111111111101001000000000"] :
        List String).map fun t => readSymbol HTables.default .ac .lum (bitString t)) = instrsAcLum14.map readAs ∧
      (instrsAcLum14.map fun i => i.symbol?.bind Symbol.instr?) = instrsAcLum14.map some :=
  ⟨by decide +kernel, by rfl⟩

/-- The instructions of these rows, each with the literal `100…`. -/
def instrsAcLum15 : List Instr :=
  [
    .acLumZrl, .acLumR15S1 1, .acLumR15S2 2, .acLumR15S3 4, .acLumR15S4 8, .acLumR15S5 16, .acLumR15S6 32,
    .acLumR15S7 64, .acLumR15S8 128, .acLumR15S9 256, .acLumR15S10 512]

theorem test_decode_acLum15 :
    (([
      "11111111001", "11111111111101011", "111111111111011010", "1111111111110111100", "11111111111110001000",
      "111111111111100110000", "1111111111111010100000", "11111111111110111000000", "111111111111110010000000",
      "1111111111111101100000000", "11111111111111101000000000"] :
        List String).map fun t => readSymbol HTables.default .ac .lum (bitString t)) = instrsAcLum15.map readAs ∧
      (instrsAcLum15.map fun i => i.symbol?.bind Symbol.instr?) = instrsAcLum15.map some :=
  ⟨by decide +kernel, by rfl⟩

/-- The instructions of these rows, each with the literal `100…`. -/
def instrsAcChr0 : List Instr :=
  [
    .acChrEob, .acChrR0S1 1, .acChrR0S2 2, .acChrR0S3 4, .acChrR0S4 8, .acChrR0S5 16, .acChrR0S6 32, .acChrR0S7 64,
    .acChrR0S8 128, .acChrR0S9 256, .acChrR0S10 512]

theorem test_decode_acChr0 :
    (([
      "00", "011", "10010", "1010100", "110001000", "1100110000", "111000100000", "11110001000000",
      "11111010010000000", "1111110110100000000", "1111111101001000000000"] :
        List String).map fun t => readSymbol HTables.default .ac .chr (bitString t)) = instrsAcChr0.map readAs ∧
      (instrsAcChr0.map fun i => i.symbol?.bind Symbol.instr?) = instrsAcChr0.map some :=
  ⟨by decide +kernel, by rfl⟩

/-- The instructions of these rows, each with the literal `100…`. -/
def instrsAcChr1 : List Instr :=
  [
    .acChrR1S1 1, .acChrR1S2 2, .acChrR1S3 4, .acChrR1S4 8, .acChrR1S5 16, .acChrR1S6 32, .acChrR1S7 64,
    .acChrR1S8 128, .acChrR1S9 256, .acChrR1S10 512]

theorem test_decode_acChr1 :
    (([
      "10111", "11100110", "11110110100", "1111101011000", "1111111011010000", "111111110101100000",
      "11111111100010001000000", "111111111000100110000000", "1111111110001010100000000",
      "11111111100010111000000000"] :
        List String).map fun t => readSymbol HTables.default .ac .chr (bitString t)) = instrsAcChr1.map readAs ∧
      (instrsAcChr1.map fun i => i.symbol?.bind Symbol.instr?) = instrsAcChr1.map some :=
  ⟨by decide +kernel, by rfl⟩

/-- The instructions of these rows, each with the literal `100…`. -/
def instrsAcChr2 : List Instr :=
  [
    .acChrR2S1 1, .acChrR2S2 2, .acChrR2S3 4, .acChrR2S4 8, .acChrR2S5 16, .acChrR2S6 32, .acChrR2S7 64,
    .acChrR2S8 128, .acChrR2S9 256, .acChrR2S10 512]

theorem test_decode_acChr2 :
    (([
      "110101", "1111011110", "1111110111100", "1111111101101000", "11111111100001010000",
      "1111111110001100100000", "11111111100011011000000", "111111111000111010000000", "1111111110001111100000000",
      "11111111100100001000000000"] :
        List String).map fun t => readSymbol HTables.default .ac .chr (bitString t)) = instrsAcChr2.map readAs ∧
      (instrsAcChr2.map fun i => i.symbol?.bind Symbol.instr?) = instrsAcChr2.map some :=
  ⟨by decide +kernel, by rfl⟩

/-- The instructions of these rows, each with the literal `100…`. -/
noncomputable def instrsAcChr3 : List Instr :=
  [
    .acChrR3S1 1, .acChrR3S2 2, .acChrR3S3 4, .acChrR3S4 8, .acChrR3S5 16, .acChrR3S6 32, .acChrR3S7 64,
    .acChrR3S8 128, .acChrR3S9 256, .acChrR3S10 512]

theorem test_decode_acChr3 :
    (([
      "110111", "1111100010", "1111111000100", "1111111101111000", "111111111001000110000",
      "1111111110010010100000", "11111111100100111000000", "111111111001010010000000", "1111111110010101100000000",
      "11111111100101101000000000"] :
        List String).map fun t => readSymbol HTables.default .ac .chr (bitString t)) = instrsAcChr3.map readAs ∧
      (instrsAcChr3.map fun i => i.symbol?.bind Symbol.instr?) = instrsAcChr3.map some :=
  ⟨by decide +kernel, by rfl⟩

/-- The instructions of these rows, each with the literal `100…`. -/
noncomputable def instrsAcChr4 : List Instr :=
  [
    .acChrR4S1 1, .acChrR4S2 2, .acChrR4S3 4, .acChrR4S4 8, .acChrR4S5 16, .acChrR4S6 32, .acChrR4S7 64,
    .acChrR4S8 128, .acChrR4S9 256, .acChrR4S10 512]

theorem test_decode_acChr4 :
    (([
      "1110101", "11111011010", "1111111110010111100", "11111111100110001000", "111111111001100110000",
      "1111111110011010100000", "11111111100110111000000", "111111111001110010000000", "1111111110011101100000000",
      "11111111100111101000000000"] :
        List String).map fun t => readSymbol HTables.default .ac .chr (bitString t)) = instrsAcChr4.map readAs ∧
      (instrsAcChr4.map fun i => i.symbol?.bind Symbol.instr?) = instrsAcChr4.map some :=
  ⟨by decide +kernel, by rfl⟩

/-- The instructions of these rows, each with the literal `100…`. -/
noncomputable def instrsAcChr5 : List Instr :=
  [
    .acChrR5S1 1, .acChrR5S2 2, .acChrR5S3 4, .acChrR5S4 8, .acChrR5S5 16, .acChrR5S6 32, .acChrR5S7 64,
    .acChrR5S8 128, .acChrR5S9 256, .acChrR5S10 512]

theorem test_decode_acChr5 :
    (([
      "1110111", "111111100110", "1111111110011111100", "11111111101000001000", "111111111010000110000",
      "1111111110100010100000", "11111111101000111000000", "111111111010010010000000", "1111111110100101100000000",
      "11111111101001101000000000"] :
        List String).map fun t => readSymbol HTables.default .ac .chr (bitString t)) = instrsAcChr5.map readAs ∧
      (instrsAcChr5.map fun i => i.symbol?.bind Symbol.instr?) = instrsAcChr5.map some :=
  ⟨by decide +kernel, by rfl⟩

/-- The instructions of these rows, each with the literal `100…`. -/
noncomputable def instrsAcChr6 : List Instr :=
  [
    .acChrR6S1 1, .acChrR6S2 2, .acChrR6S3 4, .acChrR6S4 8, .acChrR6S5 16, .acChrR6S6 32, .acChrR6S7 64,
    .acChrR6S8 128, .acChrR6S9 256, .acChrR6S10 512]

theorem test_decode_acChr6 :
    (([
      "11110011", "1111111011110", "1111111110100111100", "11111111101010001000", "111111111010100110000",
      "1111111110101010100000", "11111111101010111000000", "111111111010110010000000", "1111111110101101100000000",
      "11111111101011101000000000"] :
        List String).map fun t => readSymbol HTables.default .ac .chr (bitString t)) = instrsAcChr6.map readAs ∧
      (instrsAcChr6.map fun i => i.symbol?.bind Symbol.instr?) = instrsAcChr6.map some :=
  ⟨by decide +kernel, by rfl⟩

/-- The instructions of these rows, each with the literal `100…`. -/
noncomputable def instrsAcChr7 : List Instr :=
  [
    .acChrR7S1 1, .acChrR7S2 2, .acChrR7S3 4, .acChrR7S4 8, .acChrR7S5 16, .acChrR7S6 32, .acChrR7S7 64,
    .acChrR7S8 128, .acChrR7S9 256, .acChrR7S10 512]

theorem test_decode_acChr7 :
    (([
      "11110101", "1111111100010", "1111111110101111100", "11111111101100001000", "111111111011000110000",
      "1111111110110010100000", "11111111101100111000000", "111111111011010010000000", "1111111110110101100000000",
      "11111111101101101000000000"] :
        List String).map fun t => readSymbol HTables.default .ac .chr (bitString t)) = instrsAcChr7.map readAs ∧
      (instrsAcChr7.map fun i => i.symbol?.bind Symbol.instr?) = instrsAcChr7.map some :=
  ⟨by decide +kernel, by rfl⟩

/-- The instructions of these rows, each with the literal `100…`. -/
noncomputable def instrsAcChr8 : List Instr :=
  [
    .acChrR8S1 1, .acChrR8S2 2, .acChrR8S3 4, .acChrR8S4 8, .acChrR8S5 16, .acChrR8S6 32, .acChrR8S7 64,
    .acChrR8S8 128, .acChrR8S9 256, .acChrR8S10 512]

theorem test_decode_acChr8 :
    (([
      "111110011", "111111111011011110", "1111111110111000100", "11111111101110011000", "111111111011101010000",
      "1111111110111011100000", "11111111101111001000000", "111111111011110110000000", "1111111110111110100000000",
      "11111111101111111000000000"] :
        List String).map fun t => readSymbol HTables.default .ac .chr (bitString t)) = instrsAcChr8.map readAs ∧
      (instrsAcChr8.map fun i => i.symbol?.bind Symbol.instr?) = instrsAcChr8.map some :=
  ⟨by decide +kernel, by rfl⟩

/-- The instructions of these rows, each with the literal `100…`. -/
noncomputable def instrsAcChr9 : List Instr :=
  [
    .acChrR9S1 1, .acChrR9S2 2, .acChrR9S3 4, .acChrR9S4 8, .acChrR9S5 16, .acChrR9S6 32, .acChrR9S7 64,
    .acChrR9S8 128, .acChrR9S9 256, .acChrR9S10 512]

theorem test_decode_acChr9 :
    (([
      "1111101111", "111111111100000010", "1111111111000001100", "11111111110000101000", "111111111100001110000",
      "1111111111000100100000", "11111111110001011000000", "111111111100011010000000", "1111111111000111100000000",
      "11111111110010001000000000"] :
        List String).map fun t => readSymbol HTables.default .ac .chr (bitString t)) = instrsAcChr9.map readAs ∧
      (instrsAcChr9.map fun i => i.symbol?.bind Symbol.instr?) = instrsAcChr9.map some :=
  ⟨by decide +kernel, by rfl⟩

/-- The instructions of these rows, each with the literal `100…`. -/
noncomputable def instrsAcChr10 : List Instr :=
  [
    .acChrR10S1 1, .acChrR10S2 2, .acChrR10S3 4, .acChrR10S4 8, .acChrR10S5 16, .acChrR10S6 32, .acChrR10S7 64,
    .acChrR10S8 128, .acChrR10S9 256, .acChrR10S10 512]

theorem test_decode_acChr10 :
    (([
      "1111110001", "111111111100100110", "1111111111001010100", "11111111110010111000", "111111111100110010000",
      "1111111111001101100000", "11111111110011101000000", "111111111100111110000000", "1111111111010000100000000",
      "11111111110100011000000000"] :
        List String).map fun t => readSymbol HTables.default .ac .chr (bitString t)) = instrsAcChr10.map readAs ∧
      (instrsAcChr10.map fun i => i.symbol?.bind Symbol.instr?) = instrsAcChr10.map some :=
  ⟨by decide +kernel, by rfl⟩

/-- The instructions of these rows, each with the literal `100…`. -/
noncomputable def instrsAcChr11 : List Instr :=
  [
    .acChrR11S1 1, .acChrR11S2 2, .acChrR11S3 4, .acChrR11S4 8, .acChrR11S5 16, .acChrR11S6 32, .acChrR11S7 64,
    .acChrR11S8 128, .acChrR11S9 256, .acChrR11S10 512]

theorem test_decode_acChr11 :
    (([
      "1111110011", "111111111101001010", "1111111111010011100", "11111111110101001000", "111111111101010110000",
      "1111111111010110100000", "11111111110101111000000", "111111111101100010000000", "1111111111011001100000000",
      "11111111110110101000000000"] :
        List String).map fun t => readSymbol HTables.default .ac .chr (bitString t)) = instrsAcChr11.map readAs ∧
      (instrsAcChr11.map fun i => i.symbol?.bind Symbol.instr?) = instrsAcChr11.map some :=
  ⟨by decide +kernel, by rfl⟩

/-- The instructions of these rows, each with the literal `100…`. -/
noncomputable def instrsAcChr12 : List Instr :=
  [
    .acChrR12S1 1, .acChrR12S2 2, .acChrR12S3 4, .acChrR12S4 8, .acChrR12S5 16, .acChrR12S6 32, .acChrR12S7 64,
    .acChrR12S8 128, .acChrR12S9 256, .acChrR12S10 512]

theorem test_decode_acChr12 :
    (([
      "1111110101", "111111111101101110", "1111111111011100100", "11111111110111011000", "111111111101111010000",
      "1111111111011111100000", "11111111111000001000000", "111111111110000110000000", "1111111111100010100000000",
      "11111111111000111000000000"] :
        List String).map fun t => readSymbol HTables.default .ac .chr (bitString t)) = instrsAcChr12.map readAs ∧
      (instrsAcChr12.map fun i => i.symbol?.bind Symbol.instr?) = instrsAcChr12.map some :=
  ⟨by decide +kernel, by rfl⟩

/-- The instructions of these rows, each with the literal `100…`. -/
noncomputable def instrsAcChr13 : List Instr :=
  [
    .acChrR13S1 1, .acChrR13S2 2, .acChrR13S3 4, .acChrR13S4 8, .acChrR13S5 16, .acChrR13S6 32, .acChrR13S7 64,
    .acChrR13S8 128, .acChrR13S9 256, .acChrR13S10 512]

theorem test_decode_acChr13 :
    (([
      "111111110011", "111111111110010010", "1111111111100101100", "11111111111001101000", "111111111110011110000",
      "1111111111101000100000", "11111111111010011000000", "111111111110101010000000", "1111111111101011100000000",
      "11111111111011001000000000"] :
        List String).map fun t => readSymbol HTables.default .ac .chr (bitString t)) = instrsAcChr13.map readAs ∧
      (instrsAcChr13.map fun i => i.symbol?.bind Symbol.instr?) = instrsAcChr13.map some :=
  ⟨by decide +kernel, by rfl⟩

/-- The instructions of these rows, each with the literal `100…`. -/
noncomputable def instrsAcChr14 : List Instr :=
  [
    .acChrR14S1 1, .acChrR14S2 2, .acChrR14S3 4, .acChrR14S4 8, .acChrR14S5 16, .acChrR14S6 32, .acChrR14S7 64,
    .acChrR14S8 128, .acChrR14S9 256, .acChrR14S10 512]

theorem test_decode_acChr14 :
    (([
      "111111111000001", "111111111110110110", "1111111111101110100", "11111111111011111000",
      "111111111111000010000", "1111111111110001100000", "11111111111100101000000", "111111111111001110000000",
      "1111111111110100100000000", "11111111111101011000000000"] :
        List String).map fun t => readSymbol HTables.default .ac .chr (bitString t)) = instrsAcChr14.map readAs ∧
      (instrsAcChr14.map fun i => i.symbol?.bind Symbol.instr?) = instrsAcChr14.map some :=
  ⟨by decide +kernel, by rfl⟩

/-- The instructions of these rows, each with the literal `100…`. -/
noncomputable def instrsAcChr15 : List Instr :=
  [
    .acChrZrl, .acChrR15S1 1, .acChrR15S2 2, .acChrR15S3 4, .acChrR15S4 8, .acChrR15S5 16, .acChrR15S6 32,
    .acChrR15S7 64, .acChrR15S8 128, .acChrR15S9 256, .acChrR15S10 512]

theorem test_decode_acChr15 :
    (([
      "1111111010", "1111111110000111", "111111111111011010", "1111111111110111100", "11111111111110001000",
      "111111111111100110000", "1111111111111010100000", "11111111111110111000000", "111111111111110010000000",
      "1111111111111101100000000", "11111111111111101000000000"] :
        List String).map fun t => readSymbol HTables.default .ac .chr (bitString t)) = instrsAcChr15.map readAs ∧
      (instrsAcChr15.map fun i => i.symbol?.bind Symbol.instr?) = instrsAcChr15.map some :=
  ⟨by decide +kernel, by rfl⟩

/-! The spec's worked examples. -/

/-- 48_dispatcher R262. -/
theorem test_nop : (after .nop State.reset).cmdCnt = 1 ∧ report (after .nop State.reset) = (0, 0) := by decide +kernel

/-- 60_exceptions R325 (a): `QNT LUM` after reset, then `CFGQ 50` ignored, then `CLR`. -/
theorem test_clr_leaves_fault :
    report (after (.qnt .lum) State.reset) = (0x18, 0x1200) ∧
    (after (.cfgq 50) (after (.qnt .lum) State.reset)).quality = 0 ∧
    report (after .clr (after (.cfgq 50) (after (.qnt .lum) State.reset))) = (0, 0) ∧
    (after .clr (after (.cfgq 50) (after (.qnt .lum) State.reset))).cmdCnt = 3 := by decide +kernel

/-- 48_dispatcher R264. -/
theorem test_cfgq : (after (.cfgq 95) State.reset).quality = 95 ∧
    report (after (.cfgq 96) State.reset) = (0x11, 96) ∧ report (after (.cfgq 0) State.reset) = (0x11, 0) := by
  decide +kernel

/-- 60_exceptions R325 (i): `CFGG 1`, then `DCE CHR`. -/
theorem test_cfgg : (after (.cfgg true) State.reset).grey = true ∧
    report (after (.dce .chr) (after (.cfgg true) State.reset)) = (0x18, 0x1801) := by decide +kernel

/-- 48_dispatcher R266. -/
theorem test_ldx : (after .ldx { State.reset with xin := [flat 1, flat 2] }).xb[0] = NUM.ofRat 1 ∧
    (after .ldx { State.reset with xin := [flat 1, flat 2] }).xin.length = 1 ∧
    report (after .ldx { State.reset with xin := [flat 1, flat 2] }) = (0x100, 0) ∧
    report (after .ldx State.reset) = (0x18, 0x800) := by decide +kernel

/-- 48_dispatcher R267. -/
theorem test_stx : (after .stx (({ State.reset with xout := [flat 1] } : State).over (writeXb (flat 3)))).xout.map (fun b => b[63]) =
    [NUM.ofRat 1, NUM.ofRat 3] := by decide +kernel

/-- 40_transform R124: the constant block 10. -/
theorem test_fdct : (after .fdct (State.reset.over (writeXb (flat 10)))).xb[0] = NUM.ofRat 80 ∧
    (after .fdct (State.reset.over (writeXb (flat 10)))).xb[1] = NUM.zero ∧
    (after .fdct (State.reset.over (writeXb (flat 10)))).xb[8] = NUM.zero := by decide +kernel

/-- 40_transform R125: the DC block 80. -/
theorem test_idct :
    (after .idct (State.reset.over (writeXb (blockOf fun i j => NUM.ofRat (if i = 0 ∧ j = 0 then 80 else 0))))).xb[63] =
      NUM.ofRat 10 := by decide +kernel

/-- 41_quantizer R145 and R152: 252 at quality 50 gives 16; the tie 8/16 gives 0 under half_even. -/
theorem test_qnt : (after (.qnt .lum) (({ State.reset with quality := 50 } : State).over (writeXb (flat 252)))).qb[0] = 16 ∧
    (after (.qnt .lum) (({ State.reset with quality := 50 } : State).over (writeXb (flat 8)))).qb[0] = 0 := by decide +kernel

/-- 41_quantizer R143: ties under both rules; and 40_transform R121: `20·k_1 = 9.8…`, `-20·k_3 = -8.3…`. -/
theorem test_round :
    [1/2, 3/2, 5/2, -1/2, -3/2].map (fun q => (NUM.ofRat q).round .halfEven) = [0, 2, 2, 0, -2] ∧
    [1/2, 5/2, -1/2, -5/2].map (fun q => (NUM.ofRat q).round .halfAway) = [1, 3, -1, -3] ∧
    (⟨0, 5, 0, 0, 0, 0, 0, 0⟩ : NUM).round .halfEven = 10 ∧ (⟨0, 0, 0, -5, 0, 0, 0, 0⟩ : NUM).round .halfEven = -8 := by
  decide +kernel

/-- 41_quantizer R146; 95_test_vectors D1 for `q = 49`. -/
theorem test_dqt : (after (.dqt .lum) (({ State.reset with quality := 50 } : State).over (writeQb (sparse [(0, 16)])))).xb[0] =
      NUM.ofRat 256 ∧
    (after (.dqt .lum) (({ State.reset with quality := 49 } : State).over (writeQb (sparse [(0, 16), (1, -2)])))).xb[1] =
      NUM.ofRat (-1100 / 49) := by decide +kernel

/-- 42_zigzag R163. -/
theorem test_zz : (after .zz (State.reset.over (writeQb (Vector.ofFn fun k => (k.val : Int))))).zq.toList.take 8 =
    [0, 1, 8, 16, 9, 2, 3, 10] := by decide +kernel

/-- 42_zigzag R164: the first and third row of `ZZRANK`. -/
theorem test_izz : (after .izz (State.reset.over (writeZq (Vector.ofFn fun k => (k.val : Int))))).qb.toList.take 8 =
      [0, 1, 5, 6, 14, 15, 27, 28] ∧
    ((after .izz (State.reset.over (writeZq (Vector.ofFn fun k => (k.val : Int))))).qb.toList.drop 16).take 8 =
      [3, 8, 12, 17, 25, 30, 41, 43] := by decide +kernel

/-- 43_dc_coder R172. -/
theorem test_dce : dceOver .lum State.reset [5, 3, 3, 10] = [5, -2, 0, 7] := by decide +kernel

/-- 43_dc_coder R173. -/
theorem test_dcd : dcdOver .chr State.reset [5, -2, 0, 7] = [5, 3, 3, 10] := by decide +kernel

/-- 44_rle_coder R185, the 27 zeros. -/
theorem test_rle :
    (after .rle (State.reset.over (writeZq (acSequence ([0, -2, -1, -1, -1] ++ zeros 27 ++ [-1, -1]))))).rl =
      [⟨1, -2⟩, ⟨0, -1⟩, ⟨0, -1⟩, ⟨0, -1⟩, zrl, ⟨11, -1⟩, ⟨0, -1⟩, eob] := by decide +kernel

/-- 44_rle_coder R182: a run of exactly 16, and of 62. -/
theorem test_rle_runs :
    (after .rle (State.reset.over (writeZq (acSequence (zeros 16 ++ [1]))))).rl = [zrl, ⟨0, 1⟩, eob] ∧
    (after .rle (State.reset.over (writeZq (acSequence (zeros 62 ++ [7]))))).rl = [zrl, zrl, zrl, ⟨14, 7⟩, eob] := by
  decide +kernel

/-- 44_rle_coder R183; 95_test_vectors A11. -/
theorem test_rld :
    (after .rld (State.reset.over (writeRl [⟨0, 3⟩, eob]))).zq.toList = 0 :: 3 :: zeros 62 ∧
    report (after .rld (State.reset.over (writeRl [⟨0, 5⟩]))) = (0x2016, 0) ∧
    report (after .rld (State.reset.over (writeRl [zrl, zrl, zrl, zrl, eob]))) = (0x2016, 64) := by decide +kernel

/-- 45_huffman R203's examples. -/
theorem test_literal : [1, -1, 2, 3, -2, -3, 5, -5, -12, 16].map literal =
    ["1", "0", "10", "11", "01", "00", "101", "010", "0011", "10000"].map bitString := by decide +kernel

/-- 45_huffman R209; 60_exceptions R325 (c). -/
theorem test_hedc :
    (after (.hedc .lum) (State.reset.over (writeDiff 16))).mem.seg[0] = bitString "11010000" ∧
    (after (.hedc .lum) (State.reset.over (writeDiff (-2047)))).mem.seg[0] = bitString "11111111000000000000" ∧
    report (after (.hedc .lum) (State.reset.over (writeDiff (-2048)))) = (0x1012, -2048) := by decide +kernel

/-- 45_huffman R210; 60_exceptions R325 (d). -/
theorem test_heac :
    (after (.heac .lum) (State.reset.over (writeRl rampPairs))).mem.seg[1] = bitString "010110110011111101101010" ∧
    report (after (.heac .lum) (State.reset.over (writeRl [⟨0, 5⟩, ⟨2, 1024⟩, eob]))) = (0x2013, 1) ∧
    (after (.heac .lum) (State.reset.over (writeRl [⟨0, 5⟩, ⟨2, 1024⟩, eob]))).mem.seg[1] = [] := by decide +kernel

/-- 45_huffman R211; 60_exceptions R325 (e), (f). -/
theorem test_hddc :
    (after (.hddc .lum) (withSeg 0 "11010000")).diff = 16 ∧ (after (.hddc .lum) (withSeg 0 "11010000")).mem.cur[0] = 8 ∧
    report (after (.hddc .lum) (withSeg 0 "111111111")) = (0x14, 0) ∧
    report (after (.hddc .lum) (withSeg 0 "11111111")) = (0x15, 0) ∧
    report (after (.hddc .lum) (withSeg 0 "110100")) = (0x15, 0) := by decide +kernel

/-- 45_huffman R212; 60_exceptions R325 (g). -/
theorem test_hdac :
    (after (.hdac .lum) (withSeg 1 "010110110011111101101010")).rl = rampPairs ∧
    (after (.hdac .lum) (withSeg 1 "010110110011111101101010")).mem.cur[1] = 24 ∧
    report (after (.hdac .lum) (withSeg 1 "111111110011111111100111111111001111111110011010")) = (0x16, 64) := by
  decide +kernel

/-- 47_packer R249 (a). -/
theorem test_pack :
    (after .pack { State.reset with grey := true, mem := ⟨#v[bitString "00", bitString "1010", [], []], Vector.replicate 4 0⟩ }).bout
      = [⟨[0x28], 2, [2, 4]⟩] := by decide +kernel

/-- 47_packer R249 (b), cut back by `SLICE`; 95_test_vectors K6, check 4. -/
theorem test_slice :
    (after .slice { State.reset with bin := [⟨[0xD0, 0x5B, 0x3F, 0x6A, 0x8D, 0x46, 0x00], 7, [8, 24, 10, 7]⟩] }).mem.seg.toList
      = ["11010000", "010110110011111101101010", "1000110101", "0001100"].map bitString ∧
    report (after .slice { State.reset with grey := true, bin := [⟨[0xD0, 0x5B, 0x3F, 0x6A], 0, [8, 20]⟩] }) = (0x17, 4) := by
  decide +kernel

/-- 95_test_vectors P3, the first block: constant 40 at quality 50 has the DC coefficient 20. -/
theorem test_encblk :
    (after (.encblk .lum) { State.reset with quality := 50, xin := [flat 40] }).mem.seg.toList =
      ["11010100", "1010", "", ""].map bitString ∧
    (after (.encblk .lum) { State.reset with quality := 50, xin := [flat 40] }).predLum = 20 := by decide +kernel

/-- 95_test_vectors P4: constant 410 at quality 95 is out of the DC range, and the block stays in `XIN`. -/
theorem test_encblk_fault :
    report (after (.encblk .lum) { State.reset with quality := 95, xin := [flat 410] }) = (0x12, 2050) ∧
    (after (.encblk .lum) { State.reset with quality := 95, xin := [flat 410] }).xin.length = 1 := by decide +kernel

/-- 95_test_vectors P3, the first block back. -/
theorem test_decblk :
    ((after (.decblk .lum) { withSeg 0 "11010100" with
      quality := 50, mem := ⟨#v[bitString "11010100", bitString "1010", [], []], Vector.replicate 4 0⟩ }).xout.map
        fun b => (b[0], b[63])) = [(NUM.ofRat 40, NUM.ofRat 40)] := by decide +kernel

/-- 45_huffman R211's example as a symbol, and 95_test_vectors H11's first. -/
theorem test_dcSymbols :
    (after (.dcLumS5 16) (withSeg 0 "11010000")).diff = 16 ∧ (after (.dcLumS5 16) (withSeg 0 "11010000")).mem.cur[0] = 8 ∧
    (after (.dcChrS2 0) (withSeg 2 "1000110101")).diff = -3 ∧
    report (after (.dcLumS5 16) (withSeg 0 "110100")) = (0x15, 0) := by decide +kernel

/-- 45_huffman R212's example, its first symbol first; and EOB alone. -/
theorem test_acSymbols :
    (after (.acLumR0S2 1) (withSeg 1 "010110110011111101101010")).rl = rampPairs ∧
    (after .acChrEob (withSeg 3 "00")).rl = [eob] ∧ (after .acChrEob (withSeg 3 "00")).mem.cur[3] = 2 := by
  decide +kernel

/-- 48_dispatcher R260: the placed word is what the next step runs: `CFGQ 50`, and the symbol `DC_LUM_S5` with the literal
`10000` (log 13). -/
theorem test_step_runs_placed_word :
    (match step (State.reset.withFetchWord 16 0x0232) with
      | .next t => t.quality
      | _ => 0) = 50 ∧
    (match step (State.reset.withFetchWord 8 0b11010000) with
      | .next t => t.diff
      | _ => 0) = 16 := by decide +kernel

/-- 10_state R30, R33: `STATUS`, `SEGLEN[0]`, `DIFF`. -/
theorem test_csr :
    (after (.hedc .lum) (State.reset.over (writeDiff 16))).csr 2 = some 0x1000 ∧
    (after (.hedc .lum) (State.reset.over (writeDiff 16))).csr 4 = some 8 ∧
    (after (.hedc .lum) (State.reset.over (writeDiff 16))).csr 15 = some 16 ∧ State.reset.csr 17 = none := by decide +kernel

/-- The entries in increasing length, and in increasing value within a length. -/
def inCanonicalOrder (t : HTable) : List Code :=
  t.codes.insertionSort fun c d => Nat.blt c.len d.len || (Nat.beq c.len d.len && Nat.ble c.word d.word)

/-- 46_huffman_tables R231: the default codewords are those the canonical rule gives for their lengths. -/
theorem test_canonical :
    [hTableDcLum, hTableDcChr, hTableAcLum, hTableAcChr].all (fun t =>
      canonicalCodes (0, 0) ((inCanonicalOrder t).map fun c => (c.len, c.run, c.size)) == inCanonicalOrder t) = true := by
  decide +kernel

/-- A CORE built with other parameters (00_scope R10). -/
def builtWith (p : Params) : State :=
  { State.reset with params := p, quality := 50 }

/-- 00_scope R10, the parameters one by one: the tie 8/16 under half_away (41_quantizer R143); the chrominance table in the place
of the luminance one (46_huffman_tables R233, R237); a record with the first bit of a byte the least significant (log 23). -/
theorem test_parameters :
    (after (.qnt .lum) ((builtWith { Params.default with qRound := .halfAway }).over (writeXb (flat 8)))).qb[0] = 1 ∧
    (after (.hedc .lum) ((builtWith { Params.default with
      hTables := { HTables.default with dcLum := hTableDcChr } }).over (writeDiff 16))).mem.seg[0] =
        bitString "1111010000" ∧
    (after .pack { builtWith { Params.default with bitOrder := .lsbFirst } with
      grey := true, mem := ⟨#v[bitString "00", bitString "1010", [], []], Vector.replicate 4 0⟩ }).bout
        = [⟨[0x14], 2, [2, 4]⟩] := by decide +kernel

/-- 93_implementation_defined U6, U17: with 8-bit registers the difference 128 faults and is not written, 127 is; with buffers of
7 bits an append of 8 faults and drops no bit. -/
theorem test_limits :
    ((after (.dce .lum) ((builtWith { Params.default with intW := some 8 }).over (writeZq0 128))).faulted,
      (after (.dce .lum) ((builtWith { Params.default with intW := some 8 }).over (writeZq0 128))).vd,
      (after (.dce .lum) ((builtWith { Params.default with intW := some 8 }).over (writeZq0 127))).diff) =
      (true, false, 127) ∧
    ((after (.hedc .lum) ((builtWith { Params.default with segCap := some 7 }).over (writeDiff 16))).faulted,
      (after (.hedc .lum) ((builtWith { Params.default with segCap := some 7 }).over (writeDiff 16))).mem.seg[0],
      (after (.hedc .lum) ((builtWith { Params.default with segCap := some 8 }).over (writeDiff 16))).mem.seg[0]) =
      (true, [], bitString "11010000") := by decide +kernel

/-- 70_reset_and_hazards R352: a record that `SLICE` rejects stays in `BIN`, and after the host's part the next record is sliced. -/
theorem test_afterFault :
    let bad : Record := ⟨[0xD0], 0, [8, 20]⟩
    let good : Record := ⟨[0x28], 2, [2, 4, 0, 0]⟩
    let s := after .slice { State.reset with bin := [bad, good] }
    (s.bin, (hostAfterFault 0 1 0 s).1) = ([bad, good], (some 0x17, some 1)) ∧
    (match step (hostAfterFault 0 1 0 s).2 with
      | .next t => (t.faulted, t.bin, (after .slice t).mem.seg[0])
      | _ => (true, [], [])) = (false, [good], bitString "00") ∧
    (hostDropRecord 0 s).bin = [good] := by decide +kernel

/-- 30_encoding R96, R97. -/
theorem test_assembler :
    assembleLine "HDDC LUM ; one symbol" = some [.hddc .lum] ∧
    assembleLine "BEGIN 50, 1" = some [.clr, .cfgq 50, .cfgg true] ∧ assembleLine "CFGQ 128" = none ∧
    assembleLine "; nothing" = some [] := by decide

/-! Witnesses: for every statement with hypotheses, and for each of its clauses, a state and operands that meet them
together, at the ends of their ranges where they have ranges. -/

/-- A state that is `FAULTED`. -/
def faultedState : State :=
  { State.reset with faulted := true, err := .seq, errInfo := 0x1000 }

/-- Greyscale, not `FAULTED`, quality set, everything valid. -/
def readyState (grey : Bool) : State :=
  { State.reset with
    grey := grey, quality := 95, vx := true, vq := true, vz0 := true, vza := true, vd := true, vr := true, rl := [eob] }

/-- Registers of 8 bits and buffers of 7. -/
def tight : Params :=
  { Params.default with intW := some 8, segCap := some 7 }

/-- A ready state of a CORE with those. -/
def tightState : State :=
  { readyState false with params := tight }

/-- A ready state whose registers fit the defaults, and what the defaults leave out: no limit is reached. -/
theorem default_limits :
    (∀ v, (readyState false).params.fits v = true) ∧ (∀ vs, (readyState false).params.fitsAll vs = true) ∧
      (∀ n, (readyState false).params.holds n = true) := ⟨fun _ => rfl, fun _ => rfl, fun _ => rfl⟩

/-- The default parameters have the properties the rules need. -/
theorem witness_validParams :
    Params.default.valid = true ∧ HTables.default.valid = true ∧ QTables.default.valid = true :=
  ⟨by decide +kernel, by decide +kernel, by decide +kernel⟩

theorem witness_StepRunsDecodedCommand :
    ({ State.reset with cmdIn := [0x0232#16] } : State).cmdIn = 0x0232#16 :: [] ∧
      decodeWord 0x0232#16 = some (.cfgq 50) := ⟨rfl, rfl⟩

theorem witness_StepWithoutCommand :
    (({ State.reset with cmdIn := [0x0400#16] } : State).cmdIn = 0x0400#16 :: [] ∧ decodeWord 0x0400#16 = none ∧
      ({ State.reset with cmdIn := [0x0400#16] } : State).faulted = false) ∧
    (({ faultedState with cmdIn := [0x0280#16] } : State).cmdIn = 0x0280#16 :: [] ∧ decodeWord 0x0280#16 = none ∧
      ({ faultedState with cmdIn := [0x0280#16] } : State).faulted = true) ∧ State.reset.cmdIn = [] :=
  ⟨⟨rfl, rfl, rfl⟩, ⟨rfl, rfl, rfl⟩, rfl⟩

theorem witness_CommandDecodeEncode :
    ((Instr.cfgq 127).wellFormed = true ∧ (Instr.cfgq 127).word? = some 0x027F#16) ∧
      decodeWord 0x3101#16 = some (.decblk .chr) := ⟨⟨rfl, rfl⟩, rfl⟩

theorem witness_SymbolDecodeEncode :
    HTables.default.valid = true ∧ (Instr.acChrR15S10 1023).symbol? = some ⟨.ac, .chr, 15, 10, 1023⟩ ∧
      Instr.dcLumS0.symbol? = some ⟨.dc, .lum, 0, 0, 0⟩ :=
  ⟨witness_validParams.2.1, rfl, rfl⟩

theorem witness_SymbolReadStandsThere :
    HTables.default.valid = true ∧ readSymbol HTables.default .ac .chr (bitString "00") = .ok (⟨.ac, .chr, 0, 0, 0⟩, 2) ∧
      readSymbol HTables.default .dc .chr (bitString "11111111100000000000") = .ok (⟨.dc, .chr, 0, 10, 0⟩, 20) :=
  ⟨witness_validParams.2.1, by decide +kernel, by decide +kernel⟩

theorem witness_StepKeepsInvariant :
    ({ State.reset with cmdIn := [0x1000#16] } : State).Inv ∧
      ∃ t, step { State.reset with cmdIn := [0x1000#16] } = .next t :=
  ⟨⟨witness_validParams.1, by decide +kernel⟩, _, rfl⟩

theorem witness_ExecKeepsInvariant : (readyState true).Inv ∧ ∃ t, exec .rld (readyState true) = .next t :=
  ⟨⟨witness_validParams.1, by decide +kernel⟩, _, rfl⟩

theorem witness_FaultDiscardsEffects :
    State.reset.faulted = false ∧ ∃ t, exec .fdct State.reset = .next t ∧ t.faulted = true := ⟨rfl, _, rfl, rfl⟩

theorem witness_FaultedIgnoresCommands : faultedState.faulted = true ∧ Instr.nop ≠ .clr := ⟨rfl, by simp⟩

theorem witness_OnlyClrClearsFlags :
    Instr.nop ≠ .clr ∧ ∃ t, exec .nop (readyState false) = .next t ∧ (readyState false).vx = true :=
  ⟨by simp, _, rfl, rfl⟩

theorem witness_WritesOnlyItsRow :
    (∃ t, exec (.hedc .chr) (readyState false) = .next t) ∧ Piece.seg 0 ∉ writesOf (.hedc .chr) ∧
      Piece.seg 2 ∈ writesOf (.hedc .chr) := ⟨⟨_, rfl⟩, by decide, by decide⟩

theorem witness_SegmentBitsStay :
    Instr.hedc .lum ≠ .clr ∧ Instr.hedc .lum ≠ .slice ∧ (∃ t, exec (.hedc .lum) (withSeg 0 "1") = .next t) ∧
      0 < (withSeg 0 "1").mem.len 0 := ⟨by simp, by simp, ⟨_, rfl⟩, by decide⟩

theorem witness_UnwrittenRegistersUnread :
    State.reset.AgreeOnValid { State.reset with diff := 5, rl := [zrl] } :=
  ⟨rfl, fun _ => rfl, fun _ => rfl, fun _ => rfl, fun _ _ _ => rfl, fun h => absurd h (by decide), fun h => absurd h (by decide)⟩

theorem witness_GreyBlocksChrominance :
    (readyState true).faulted = false ∧ (readyState true).grey = true ∧
      Instr.acChrZrl.symbol? = some ⟨.ac, .chr, 15, 0, 0⟩ ∧ Instr.dcChrS0.symbol? = some ⟨.dc, .chr, 0, 0, 0⟩ :=
  ⟨rfl, rfl, rfl, rfl⟩

theorem witness_StatusFields :
    (readyState false).vd = true ∧ State.reset.vd = false ∧ 16 < 17 := by decide

/-- No word waiting, and two entries in each of the queues the host discards from. -/
theorem witness_ClrStartsSession :
    ({ faultedState with xin := [flat 1, flat 2], xout := [flat 3, flat 4] } : State).cmdIn = [] := rfl

theorem witness_ConfigurationCommands :
    State.reset.faulted = false ∧ (1 ≤ 1 ∧ 1 ≤ 95) ∧ (1 ≤ 95 ∧ 95 ≤ 95) ∧ ((0 : Nat) = 0 ∨ 96 ≤ 0) ∧ ((96 : Nat) = 0 ∨ 96 ≤ 96) := by
  decide

theorem witness_PortCommands :
    (State.reset.faulted = false ∧ State.reset.xin = []) ∧
    (({ State.reset with xin := [flat 1] } : State).faulted = false ∧
      ({ State.reset with xin := [flat 1] } : State).xin = flat 1 :: []) ∧
    ((readyState false).faulted = false ∧ (readyState false).vx = true) ∧
    (State.reset.faulted = false ∧ State.reset.vx = false) := ⟨⟨rfl, rfl⟩, ⟨rfl, rfl⟩, ⟨rfl, rfl⟩, rfl, rfl⟩

theorem witness_TransformCommands :
    ((readyState false).faulted = false ∧ (readyState false).vx = true) ∧
    (State.reset.faulted = false ∧ State.reset.vx = false) := ⟨⟨rfl, rfl⟩, rfl, rfl⟩

/-- With the defaults every block fits; with registers of 8 bits one with entries 127 and -128 does. -/
theorem witness_QntCommand :
    ((readyState true).Accepts .lum ∧ (readyState true).quality ≠ 0 ∧ (readyState true).vx = true ∧
      ∀ q, (readyState true).params.fitsAll q = true) ∧
    ((readyState false).Accepts .chr ∧ (readyState false).quality ≠ 0 ∧ (readyState false).vx = true ∧
      ∀ q, (readyState false).params.fitsAll q = true) ∧
    tight.fitsAll [127, -128] = true ∧
    ((readyState true).faulted = false ∧ ¬(readyState true).Accepts .chr) ∧
    (State.reset.faulted = false ∧ State.reset.quality = 0 ∧ State.reset.vx = false) :=
  ⟨⟨by decide, by decide, by decide, fun _ => rfl⟩, ⟨by decide, by decide, by decide, fun _ => rfl⟩, by decide,
    by decide, by decide⟩

theorem witness_DqtCommand :
    ((readyState true).Accepts .lum ∧ (readyState true).quality ≠ 0 ∧ (readyState true).vq = true) ∧
    ((readyState true).faulted = false ∧ ¬(readyState true).Accepts .chr) ∧
    (State.reset.faulted = false ∧ State.reset.quality = 0 ∧ State.reset.vq = false) := by decide

theorem witness_ScaledTableIsPositive : QTables.default.valid = true ∧ (1 ≤ 1 ∧ 1 ≤ 95) ∧ (1 ≤ 50 ∧ 50 ≤ 95) ∧ (1 ≤ 95 ∧ 95 ≤ 95) :=
  ⟨witness_validParams.2.2, by decide⟩

theorem witness_QuantizeUndoesDequantize : Params.default.qTables.valid = true ∧ (1 ≤ 1 ∧ 1 ≤ 95) ∧ (1 ≤ 49 ∧ 49 ≤ 95) ∧ (1 ≤ 95 ∧ 95 ≤ 95) :=
  ⟨witness_validParams.2.2, by decide⟩

theorem witness_ZigzagCommands :
    ((readyState false).faulted = false ∧ (readyState false).vq = true ∧ (readyState false).vz0 = true ∧
      (readyState false).vza = true) ∧
    (State.reset.faulted = false ∧ State.reset.vq = false ∧ State.reset.vz0 = false) ∧
    (({ readyState false with vza := false } : State).faulted = false ∧
      ({ readyState false with vza := false } : State).vza = false) := by decide

theorem witness_DceCommand :
    ((readyState true).Accepts .lum ∧ (readyState true).vz0 = true ∧
      (readyState true).params.fits ((readyState true).zq[0] - (readyState true).predOf .lum) = true) ∧
    (({ tightState with predChr := 128 } : State).Accepts .chr ∧ ({ tightState with predChr := 128 } : State).vz0 = true ∧
      ({ tightState with predChr := 128 } : State).params.fits
        (({ tightState with predChr := 128 } : State).zq[0] - ({ tightState with predChr := 128 } : State).predOf .chr) = true) ∧
    ((readyState true).faulted = false ∧ ¬(readyState true).Accepts .chr) ∧
    (State.reset.faulted = false ∧ State.reset.vz0 = false) := by decide

theorem witness_DcdCommand :
    ((readyState false).Accepts .chr ∧ (readyState false).vd = true ∧
      (readyState false).params.fits ((readyState false).predOf .chr + (readyState false).diff) = true) ∧
    (({ tightState with diff := 127 } : State).Accepts .lum ∧ ({ tightState with diff := 127 } : State).vd = true ∧
      ({ tightState with diff := 127 } : State).params.fits
        (({ tightState with diff := 127 } : State).predOf .lum + ({ tightState with diff := 127 } : State).diff) = true) ∧
    ((readyState true).faulted = false ∧ ¬(readyState true).Accepts .chr) ∧
    (State.reset.faulted = false ∧ State.reset.vd = false) := by decide

theorem witness_DcCoderRoundTrip : State.reset.Accepts .chr ∧ State.reset.predOf .chr = 0 ∧
    (∀ v ∈ [5, 3, 3, 10], State.reset.params.fits v = true) ∧
    (∀ d ∈ encodeDifferential [5, 3, 3, 10], State.reset.params.fits d = true) := by decide

theorem witness_RleCommand :
    ((readyState false).faulted = false ∧ (readyState false).vza = true) ∧
    (State.reset.faulted = false ∧ State.reset.vza = false) := by decide

/-- 63 coefficients, 64 coefficients, no EOB, not valid. -/
theorem witness_RldCommand :
    ((State.reset.over (writeRl [zrl, zrl, zrl, ⟨14, 1⟩, eob])).faulted = false ∧
      (State.reset.over (writeRl [zrl, zrl, zrl, ⟨14, 1⟩, eob])).rl = [zrl, zrl, zrl, ⟨14, 1⟩] ++ eob :: [] ∧
      eob ∉ [zrl, zrl, zrl, ⟨14, 1⟩] ∧ coeffCount [zrl, zrl, zrl, ⟨14, 1⟩] = 63) ∧
    ((State.reset.over (writeRl [zrl, zrl, zrl, zrl, eob])).vr = true ∧ eob ∉ [zrl, zrl, zrl, zrl] ∧
      coeffCount [zrl, zrl, zrl, zrl] = 64) ∧
    ((State.reset.over (writeRl [⟨0, 5⟩])).vr = true ∧ eob ∉ (State.reset.over (writeRl [⟨0, 5⟩])).rl) ∧
    (State.reset.faulted = false ∧ State.reset.vr = false) := by decide

theorem witness_RunLengthRoundTrip :
    (readyState false).faulted = false ∧ (readyState false).vza = true ∧
      ∃ t, exec .rle (readyState false) = .next t ∧ (readyState false).vr = true ∧ (readyState false).rl = t.rl :=
  ⟨rfl, rfl, after .rle (readyState false), rfl, rfl, by decide +kernel⟩

theorem witness_CategoryAndLiteral : (1 : Int) ≠ 0 ∧ (0 : Int) < 1 ∧ (-1 : Int) < 0 ∧ 1 ≤ 1 ∧ 0 < 2 ^ 1 ∧ 2047 < 2 ^ 11 := by
  decide

theorem witness_EncodableValues : HTables.default.valid = true := witness_validParams.2.1

/-- Both ends of the range, and beyond them; the codeword 00 of category 0, which the buffer of 7 bits holds after 5 bits. -/
theorem witness_HedcCommand :
    (HTables.default.valid = true ∧ (∀ n, (State.reset.over (writeDiff 2047)).params.holds n = true)) ∧
    (tightState.Accepts .lum ∧ tightState.vd = true ∧ (HTables.default.get .dc .lum).code? 0 0 = some ⟨0, 0, 2, 0b00⟩ ∧
      ({ tightState with mem := tightState.mem.append 0 (bitString "00101") } : State).params.holds
        (({ tightState with mem := tightState.mem.append 0 (bitString "00101") } : State).mem.len (segIx .dc .lum) + 2) = true) ∧
    ((State.reset.over (writeDiff 2047)).Accepts .chr ∧ (State.reset.over (writeDiff 2047)).vd = true ∧ (-2047 : Int) ≤ 2047) ∧
    ((State.reset.over (writeDiff (-2047))).Accepts .lum ∧ (State.reset.over (writeDiff (-2047))).diff ≤ 2047) ∧
    ((State.reset.over (writeDiff 2048)).Accepts .lum ∧ 2047 < (State.reset.over (writeDiff 2048)).diff) ∧
    ((State.reset.over (writeDiff (-2048))).Accepts .lum ∧ (State.reset.over (writeDiff (-2048))).diff < -2047) ∧
    (State.reset.faulted = false ∧ State.reset.vd = false) :=
  ⟨⟨witness_validParams.2.1, fun _ => rfl⟩, by decide, by decide, by decide, by decide, by decide, by decide⟩

/-- The defaults hold every segment, and the buffer of 7 bits the 4 of EOB after 3. -/
theorem witness_HeacCommand :
    (∀ n, (State.reset.over (writeRl [⟨15, 1023⟩, eob])).params.holds n = true) ∧
    (tightState.Accepts .lum ∧ tightState.vr = true ∧ (∀ p ∈ tightState.rl, (encAc tight.hTables p .lum).isSome = true) ∧
      (tightState.rl.flatMap fun p => (encAc tight.hTables p .lum).getD []).length = 4 ∧ tight.holds (3 + 4) = true) ∧
    ((State.reset.over (writeRl [⟨15, 1023⟩, eob])).Accepts .lum ∧ (State.reset.over (writeRl [⟨15, 1023⟩, eob])).vr = true ∧
      ∀ p ∈ (State.reset.over (writeRl [⟨15, 1023⟩, eob])).rl, (encAc HTables.default p .lum).isSome = true) ∧
    ((State.reset.over (writeRl [⟨0, 5⟩, ⟨0, -1024⟩, eob])).rl = [⟨0, 5⟩] ++ ⟨0, -1024⟩ :: [eob] ∧
      (∀ q ∈ [(⟨0, 5⟩ : Pair)], (encAc HTables.default q .chr).isSome = true) ∧ encAc HTables.default ⟨0, -1024⟩ .chr = none) ∧
    (State.reset.faulted = false ∧ State.reset.vr = false) :=
  ⟨fun _ => rfl, by decide +kernel, by decide +kernel, by decide +kernel, by decide⟩

theorem witness_DcSymbolAtCursor :
    HTables.default.valid = true ∧ (withSeg 2 "1111111111000000000000").params.hTables = HTables.default ∧
      (∀ v, (withSeg 2 "1111111111000000000000").params.fits v = true) ∧
    (Instr.dcChrS11 0).symbol? = some ⟨.dc, .chr, 0, 11, 0⟩ ∧ (withSeg 2 "1111111111000000000000").Accepts .chr ∧
      (withSeg 2 "1111111111000000000000").mem.rest (segIx .dc .chr) = encode HTables.default (.dcChrS11 0) ++ [] :=
  ⟨witness_validParams.2.1, rfl, fun _ => rfl, by decide +kernel⟩

/-- The bits of 63 pairs `(0, 1)` and EOB. -/
def fullBlock : Bits :=
  (List.replicate 63 (bitString "001")).flatten ++ bitString "1010"

theorem witness_HdacDecodesBlock :
    (HTables.default.valid = true ∧ State.reset.params.hTables = HTables.default ∧
      ∀ vs, State.reset.params.fitsAll vs = true) ∧
    State.reset.Accepts .lum ∧ eob ∉ List.replicate 63 (⟨0, 1⟩ : Pair) ∧ coeffCount (List.replicate 63 ⟨0, 1⟩) ≤ 63 ∧
      encPairs HTables.default .lum 0 (List.replicate 63 ⟨0, 1⟩ ++ [eob]) = .ok fullBlock ∧
      ({ State.reset with mem := State.reset.mem.append 1 fullBlock } : State).mem.rest (segIx .ac .lum) =
        fullBlock ++ [] :=
  ⟨⟨witness_validParams.2.1, rfl, fun _ => rfl⟩, by decide +kernel⟩

theorem witness_AcSymbolAtCursor :
    (HTables.default.valid = true ∧ (withSeg 1 "111111110011010").params.hTables = HTables.default ∧
      ∀ v, (withSeg 1 "111111110011010").params.fits v = true) ∧
    ((Instr.acLumZrl).symbol? = some ⟨.ac, .lum, 15, 0, 0⟩ ∧ Instr.acLumEob.symbol? = some ⟨.ac, .lum, 0, 0, 0⟩ ∧
      (withSeg 1 "111111110011010").Accepts .lum ∧
      (withSeg 1 "111111110011010").mem.rest (segIx .ac .lum) = encode HTables.default .acLumZrl ++ encode HTables.default .acLumEob ++ []) ∧
    ((withSeg 3 "001").Accepts .chr ∧ Instr.acChrEob.symbol? = some ⟨.ac, .chr, 0, 0, 0⟩ ∧
      (withSeg 3 "001").mem.rest (segIx .ac .chr) = encode HTables.default .acChrEob ++ [true]) ∧ Instr.acLumZrl ≠ .acLumEob :=
  ⟨⟨witness_validParams.2.1, rfl, fun _ => rfl⟩, by decide +kernel, by decide +kernel, by simp⟩

theorem witness_SymbolFaults :
    ((withSeg 0 "111111111").Accepts .lum ∧
      readSymbol HTables.default .dc .lum ((withSeg 0 "111111111").mem.rest (segIx .dc .lum)) = .error .noMatch) ∧
    (State.reset.Accepts .chr ∧ readSymbol HTables.default .dc .chr (State.reset.mem.rest (segIx .dc .chr)) = .error .underrun) ∧
    ((Instr.acLumR0S1 0).symbol? = some ⟨.ac, .lum, 0, 1, 0⟩ ∧
      ((withSeg 1 "00").mem.rest (segIx .ac .lum)).length < (encode HTables.default (.acLumR0S1 0)).length) := by decide +kernel

/-- An underrun after 63 coefficients, 16 ones after none, and the 64th coefficient. -/
theorem witness_HdacFaults :
    (HTables.default.valid = true ∧ State.reset.params.hTables = HTables.default) ∧
    (State.reset.Accepts .lum ∧ eob ∉ [zrl, zrl, zrl, ⟨14, 1⟩] ∧ coeffCount [zrl, zrl, zrl, ⟨14, 1⟩] ≤ 63 ∧
      (∃ b, encPairs HTables.default .lum 0 [zrl, zrl, zrl, ⟨14, 1⟩] = .ok b ∧
        ({ State.reset with mem := State.reset.mem.append 1 b } : State).mem.rest (segIx .ac .lum) = b ++ []) ∧
      readSymbol HTables.default .ac .lum [] = .error .underrun) ∧
    (encPairs HTables.default .chr 0 [] = .ok [] ∧ (withSeg 3 "1111111111111111").mem.rest (segIx .ac .chr) =
        [] ++ bitString "1111111111111111" ∧ readSymbol HTables.default .ac .chr (bitString "1111111111111111") = .error .noMatch) ∧
    (eob ∉ [zrl, zrl, zrl] ∧ zrl ≠ eob ∧ coeffCount [zrl, zrl, zrl] ≤ 63 ∧ 63 < coeffCount ([zrl, zrl, zrl] ++ [zrl]) ∧
      ∃ b, encPairs HTables.default .lum 0 ([zrl, zrl, zrl] ++ [zrl]) = .ok b ∧
        ({ State.reset with mem := State.reset.mem.append 1 b } : State).mem.rest (segIx .ac .lum) = b ++ []) := by
  refine ⟨⟨witness_validParams.2.1, rfl⟩, ⟨by decide, by decide, by decide, ⟨_, rfl, rfl⟩, by decide +kernel⟩, by decide +kernel, by decide, by decide,
    by decide, by decide, ⟨_, rfl, rfl⟩⟩

/-- A ready state with integer registers of 8 bits. -/
def narrowState : State :=
  { readyState false with params := { Params.default with intW := some 8 } }

/-- For every limit a value or an append one beyond it: a quotient 160, the differences -129 and 128, the AC coefficient 128,
8 bits appended to an empty segment of 7, 4 bits after 4, and a record with a segment of 8. -/
theorem witness_LimitFaults :
    (({ tightState with xb := flat 256 } : State).Accepts .lum ∧ ({ tightState with xb := flat 256 } : State).quality ≠ 0 ∧
      ({ tightState with xb := flat 256 } : State).vx = true ∧
      tight.fitsAll (quantize tight exactSystem .lum 95 (flat 256)).toList = false) ∧
    (({ tightState with predChr := 129 } : State).Accepts .chr ∧ ({ tightState with predChr := 129 } : State).vz0 = true ∧
      tight.fits (0 - 129) = false) ∧
    (({ tightState with predLum := 127, diff := 1 } : State).Accepts .lum ∧
      ({ tightState with predLum := 127, diff := 1 } : State).vd = true ∧ tight.fits (127 + 1) = false) ∧
    (narrowState.params.hTables = HTables.default ∧
      ({ narrowState with mem := narrowState.mem.append 0 (bitString "11111010000000") } : State).Accepts .lum ∧
      encDc HTables.default 128 .lum = some (bitString "11111010000000") ∧
      ({ narrowState with mem := narrowState.mem.append 0 (bitString "11111010000000") } : State).mem.rest (segIx .dc .lum) =
        bitString "11111010000000" ++ [] ∧ narrowState.params.fits 128 = false) ∧
    (eob ∉ [(⟨0, 128⟩ : Pair)] ∧ coeffCount [⟨0, 128⟩] ≤ 63 ∧
      (∃ b, encPairs HTables.default .lum 0 ([⟨0, 128⟩] ++ [eob]) = .ok b ∧
        ({ narrowState with mem := narrowState.mem.append 1 b } : State).mem.rest (segIx .ac .lum) = b ++ []) ∧
      narrowState.params.fitsAll ([(⟨0, 128⟩ : Pair)].map fun p => p.value) = false) ∧
    (({ tightState with diff := 16 } : State).Accepts .lum ∧ ({ tightState with diff := 16 } : State).vd = true ∧
      encDc tight.hTables 16 .lum = some (bitString "11010000") ∧ tight.holds (0 + 8) = false) ∧
    (tightState.Accepts .lum ∧ tightState.vr = true ∧ encPairs tight.hTables .lum 0 tightState.rl = .ok (bitString "1010") ∧
      tight.holds (4 + 4) = false) ∧
    (({ tightState with bin := [⟨[0xD0], 0, [8, 0, 0, 0]⟩] } : State).faulted = false ∧
      ({ tightState with bin := [⟨[0xD0], 0, [8, 0, 0, 0]⟩] } : State).bin = ⟨[0xD0], 0, [8, 0, 0, 0]⟩ :: [] ∧
      headerFault tightState.nseg ⟨[0xD0], 0, [8, 0, 0, 0]⟩ = none ∧
      tight.holds (sliceSegs tight.bitOrder ⟨[0xD0], 0, [8, 0, 0, 0]⟩)[(0 : Fin 4)].length = false) := by
  refine ⟨by decide +kernel, by decide, by decide, ⟨rfl, by decide, by decide +kernel, by decide +kernel, by decide⟩,
    ⟨by decide, by decide, ⟨_, rfl, rfl⟩, by decide⟩, by decide +kernel, by decide +kernel, rfl, rfl, by decide +kernel,
    by decide +kernel⟩

theorem witness_PackCommand : State.reset.faulted = false ∧ (readyState true).faulted = false := ⟨rfl, rfl⟩

/-- The empty queue; a sound record; and a record that fails each check, 95_test_vectors K6. The default buffers hold every
segment, those of 7 bits a segment of 7. -/
theorem witness_SliceCommand :
    ((∀ n, (readyState true).params.holds n = true) ∧ tight.holds 7 = true) ∧
    (State.reset.faulted = false ∧ State.reset.bin = []) ∧
    ([(⟨[0xD0, 0x5B, 0x3F, 0x6A], 0, [8, 24, 0, 0]⟩ : Record), ⟨[0xD0, 0x5B, 0x3F, 0x6A], 0, [8, -24]⟩,
      ⟨[0xD0, 0x5B, 0x3F, 0x6A], 8, [8, 24]⟩, ⟨[0xD0, 0x5B, 0x3F, 0x6A], 0, [8, 20]⟩,
      ⟨[0xD0, 0x5B, 0x3F, 0x6A], 4, [8, 20]⟩].map (headerFault 2) = [some 1, some 2, some 3, some 4, none]) ∧
    (∀ r : Record, ({ readyState true with bin := [r] } : State).faulted = false ∧
      ({ readyState true with bin := [r] } : State).bin = r :: [] ∧ ({ readyState true with bin := [r] } : State).nseg = 2) :=
  ⟨⟨fun _ => rfl, by decide⟩, ⟨rfl, rfl⟩, by decide, fun _ => ⟨rfl, rfl, rfl⟩⟩

theorem witness_PackSliceRoundTrip :
    ∃ t r, (withSeg 3 "011").faulted = false ∧ exec .pack (withSeg 3 "011") = .next t ∧
      t.bout = (withSeg 3 "011").bout ++ [r] ∧ ({ State.reset with bin := [r] } : State).faulted = false ∧
      ({ State.reset with bin := [r] } : State).grey = (withSeg 3 "011").grey ∧
      ({ State.reset with bin := [r] } : State).params.bitOrder = (withSeg 3 "011").params.bitOrder ∧
      (∀ k : Fin 4, k.val < (withSeg 3 "011").nseg →
        ({ State.reset with bin := [r] } : State).params.holds ((withSeg 3 "011").mem.len k) = true) ∧
      ({ State.reset with bin := [r] } : State).bin = r :: [] :=
  ⟨_, _, rfl, rfl, rfl, rfl, rfl, rfl, fun _ _ => rfl, rfl⟩

/-- The three `E_SEQ` grounds; the zero block, all of whose coefficients are codable; and the block 410 at quality 95, whose
DC difference 2050 is not. -/
theorem witness_EncblkCommand :
    ((readyState true).faulted = false ∧ ¬(readyState true).Accepts .chr ∧ State.reset.quality = 0 ∧
      (readyState false).xin = []) ∧
    (({ readyState false with xin := [flat 0] } : State).Accepts .chr ∧
      ({ readyState false with xin := [flat 0] } : State).quality ≠ 0 ∧
      ({ readyState false with xin := [flat 0] } : State).xin = flat 0 :: [] ∧
      zigzag (quantize Params.default exactSystem .chr 95 (fdct (flat 0))) = Vector.replicate 64 0) ∧
    (zigzag (quantize Params.default exactSystem .lum 95 (fdct (flat 410))))[0] = 2050 := by
  refine ⟨by decide, ⟨by decide, by decide, rfl, by decide +kernel⟩, by decide +kernel⟩

/-- A block whose DC coefficient is 0 and whose first AC coefficient is far above 1023 at quality 95. -/
def steepBlock : Block NUM :=
  blockOf fun _ j => NUM.ofRat (if j.val < 4 then 8000 else -8000)

theorem cons_of_headD {l : List Pair} {d : Pair} (h : l.isEmpty = false) : l = [] ++ l.headD d :: l.tail := by
  cases l with
  | nil => cases h
  | cons a t => rfl

/-- The first pair of the steep block cannot be coded. -/
theorem witness_EncblkCommand_acRange :
    ({ readyState false with xin := [steepBlock] } : State).Accepts .lum ∧
    let z := zigzag (quantize Params.default exactSystem .lum 95 (fdct steepBlock))
    ∃ p after, -2047 ≤ z[0] - 0 ∧ z[0] - 0 ≤ 2047 ∧ rleByRule (z.toList.drop 1) = [] ++ p :: after ∧
      (∀ x ∈ ([] : List Pair), (encAc HTables.default x .lum).isSome = true) ∧ encAc HTables.default p .lum = none := by
  refine ⟨by decide, (rleByRule ((zigzag (quantize Params.default exactSystem .lum 95 (fdct steepBlock))).toList.drop 1)).headD eob, _,
    by decide +kernel, by decide +kernel, cons_of_headD (by decide +kernel), by simp, by decide +kernel⟩

/-- The tie 1/2. -/
theorem witness_RoundIsNearestInteger :
    |(NUM.ofRat (1 / 2)).toReal - ((NUM.ofRat (1 / 2)).round .halfEven : ℝ)| = 1 / 2 ∧
      |(NUM.ofRat (1 / 2)).toReal - ((NUM.ofRat (1 / 2)).round .halfAway : ℝ)| = 1 / 2 := by
  have h : (NUM.ofRat (1 / 2)).round .halfEven = 0 ∧ (NUM.ofRat (1 / 2)).round .halfAway = 1 := by decide +kernel
  rw [h.1, h.2]
  constructor <;> norm_num [NUM.toReal, NUM.ofRat]

/-- Each limit on the way through `ENCBLK`, at both sides: the coefficient 128 and the difference -129 do not fit 8 bits, the
DC symbol of -2 fits the buffer of 7 bits and that of 20 does not, and the AC symbols of a zero block fit. -/
theorem witness_EncblkCommand_limits :
    tight.hTables.valid = true ∧
    tight.fitsAll (quantize tight exactSystem .lum 50 (fdct (flat 256))).toList = false ∧
    (tight.fitsAll (quantize tight exactSystem .lum 50 (fdct (flat (-4)))).toList = true ∧
      (zigzag (quantize tight exactSystem .lum 50 (fdct (flat (-4)))))[0] = -2 ∧ tight.fits (-2 - 127) = false ∧
      tight.fits (-2 - 126) = true) ∧
    (encDc tight.hTables (-2) .lum = some (bitString "01101") ∧ tight.holds (0 + 5) = true) ∧
    (encDc tight.hTables 20 .lum = some (bitString "11010100") ∧ tight.holds (0 + 8) = false) ∧
    (encPairs tight.hTables .lum 0 [eob] = .ok (bitString "1010") ∧ tight.holds (3 + 4) = true ∧
      tight.holds (4 + 4) = false) :=
  ⟨witness_validParams.2.1, by decide +kernel, by decide +kernel, by decide +kernel, by decide +kernel, by decide +kernel⟩

/-- The two segments of luminance at the cursors of a state with the quality set. -/
def decodeState (dc ac : String) : State :=
  { readyState false with mem := ⟨#v[bitString dc, bitString ac, [], []], Vector.replicate 4 0⟩ }

/-- Not configured; no DC symbol; 95_test_vectors P1's block, with three pairs before EOB, at the two cursors; and its DC
symbol with AC bits that do not decode: cut off in the third pair, 16 ones after the second, and the 64th coefficient. -/
theorem witness_DecblkCommand :
    (State.reset.faulted = false ∧ State.reset.quality = 0) ∧
    ((readyState true).Accepts .lum ∧ (readyState true).quality ≠ 0 ∧
      readSymbol HTables.default .dc .lum ((readyState true).mem.rest (segIx .dc .lum)) = .error .underrun) ∧
    ((decodeState "11010000" "010110110011111101101010").params.hTables = HTables.default ∧
      (decodeState "11010000" "010110110011111101101010").Accepts .lum ∧
      (decodeState "11010000" "010110110011111101101010").quality ≠ 0 ∧
      encDc HTables.default 16 .lum = some (bitString "11010000") ∧
      (decodeState "11010000" "010110110011111101101010").mem.rest (segIx .dc .lum) = bitString "11010000" ++ [] ∧
      Params.default.fits 16 = true ∧ Params.default.fits (0 + 16) = true) ∧
    (eob ∉ [(⟨0, -2⟩ : Pair), ⟨0, -12⟩, ⟨6, -1⟩] ∧ coeffCount [⟨0, -2⟩, ⟨0, -12⟩, ⟨6, -1⟩] ≤ 63 ∧
      encPairs HTables.default .lum 0 ([⟨0, -2⟩, ⟨0, -12⟩, ⟨6, -1⟩] ++ [eob]) =
        .ok (bitString "010110110011111101101010") ∧
      (decodeState "11010000" "010110110011111101101010").mem.rest (segIx .ac .lum) =
        bitString "010110110011111101101010" ++ []) ∧
    (encPairs HTables.default .lum 0 [⟨0, -2⟩, ⟨0, -12⟩] = .ok (bitString "010110110011") ∧
      (decodeState "11010000" "01011011001111110").mem.rest (segIx .ac .lum) =
        bitString "010110110011" ++ bitString "11110" ∧
      readSymbol HTables.default .ac .lum (bitString "11110") = .error .underrun ∧
      readSymbol HTables.default .ac .lum (bitString "1111111111111111") = .error .noMatch) ∧
    (eob ∉ [zrl, zrl, zrl] ∧ zrl ≠ eob ∧ coeffCount [zrl, zrl, zrl] ≤ 63 ∧ 63 < coeffCount ([zrl, zrl, zrl] ++ [zrl]) ∧
      ∃ b, encPairs HTables.default .lum 0 ([zrl, zrl, zrl] ++ [zrl]) = .ok b) ∧
    (tight.fits 128 = false ∧ tight.fits (-128) = true ∧ tight.fits (-128 + -1) = false) := by
  refine ⟨by decide, by decide +kernel, by decide +kernel, by decide +kernel, by decide +kernel, ⟨by decide, by decide,
    by decide, by decide, _, rfl⟩, by decide⟩

/-- For each layer the zero block through the encode side, and for luminance the block of 95_test_vectors P1 and for
chrominance a zero block through the decode side. -/
theorem witness_CompositeIsSequence :
    (readyState false).faulted = false ∧
    (∀ l ∈ [Layer.lum, .chr], ∃ u, execList [.ldx, .fdct, .qnt l, .zz, .dce l, .hedc l, .rle, .heac l]
      { readyState false with xin := [flat 0] } = .next u ∧ u.faulted = false) ∧
    (∀ l ∈ [Layer.lum, .chr], ∃ u, exec (.encblk l) { readyState false with xin := [flat 0] } = .next u ∧
      u.faulted = false) ∧
    (∀ c ∈ [(Layer.lum, decodeState "11010000" "010110110011111101101010"),
        (.chr, { readyState false with mem := ⟨#v[[], [], bitString "00", bitString "00"], Vector.replicate 4 0⟩ })],
      (∃ u, execList [.hddc c.1, .dcd c.1, .hdac c.1, .rld, .izz, .dqt c.1, .idct, .stx] c.2 = .next u ∧
        u.faulted = false) ∧
      (∃ u, exec (.decblk c.1) c.2 = .next u ∧ u.faulted = false)) := by
  refine ⟨rfl, fun l hl => exists_of_completes ?_, fun l hl => exists_of_completes ?_, fun c hc =>
    ⟨exists_of_completes ?_, exists_of_completes ?_⟩⟩
  · revert l; decide +kernel
  · revert l; decide +kernel
  · revert c; decide +kernel
  · revert c; decide +kernel

end Sys2Proof.Tests
end

namespace Sys2Proof.Machine

/-! ### Every command counts (10_state R27) -/

/-- What only the command step itself writes: `CMDCNT`, `FAULTED` and the fault record (10_state R27, R29, R33, R34). -/
def CoreState.bookkeeping {ν : Type} (s : CoreState ν) : Nat × Bool × ErrCode × Fin 4 × Int :=
  (s.cmdCnt, s.faulted, s.err, s.errSeg, s.errInfo)

/-- Where the effect is a completion, it has left the bookkeeping of `s` alone. -/
def Effect.KeepsBookkeeping {ν : Type} (s : CoreState ν) (e : Effect ν) : Prop :=
  ∀ t, e = .ok t → t.bookkeeping = s.bookkeeping

section

variable {ν : Type} (s : CoreState ν)

@[simp] theorem Effect.keepsBookkeeping_error (r : Raise) : KeepsBookkeeping s (.error r) :=
  fun _ h => by cases h

@[simp] theorem Effect.keepsBookkeeping_ok (t : CoreState ν) :
    KeepsBookkeeping s (.ok t) ↔ t.bookkeeping = s.bookkeeping :=
  ⟨fun h => h t rfl, fun h _ ht => by cases ht; exact h⟩

@[simp] theorem Effect.keepsBookkeeping_checkLimit (c : Limit) (b : Bool) (t : CoreState ν)
    (h : t.bookkeeping = s.bookkeeping) : KeepsBookkeeping s (checkLimit c b t) := by
  cases b <;> simp [h]

theorem Effect.KeepsBookkeeping.andThen {s : CoreState ν} {e : Effect ν} {rule : CoreState ν → Effect ν}
    (he : KeepsBookkeeping s e) (hr : ∀ u, KeepsBookkeeping u (rule u)) : KeepsBookkeeping s (andThen e rule) := by
  intro t ht
  obtain ⟨u, hu, hut⟩ := (andThen_eq_ok e rule t).mp ht
  exact (hr u t hut).trans (he u hu)

@[simp] theorem setPred_bookkeeping (l : Layer) (v : Int) : (setPred l v s).bookkeeping = s.bookkeeping := by
  cases l <;> rfl
@[simp] theorem writeXb_bookkeeping (b : Block ν) : (writeXb b s).bookkeeping = s.bookkeeping := rfl
@[simp] theorem writeQb_bookkeeping (b : Block Int) : (writeQb b s).bookkeeping = s.bookkeeping := rfl
@[simp] theorem writeZq_bookkeeping (z : Vector Int 64) : (writeZq z s).bookkeeping = s.bookkeeping := rfl
@[simp] theorem writeZq0_bookkeeping (v : Int) : (writeZq0 v s).bookkeeping = s.bookkeeping := rfl
@[simp] theorem writeZqAc_bookkeeping (ac : List Int) : (writeZqAc ac s).bookkeeping = s.bookkeeping := rfl
@[simp] theorem writeDiff_bookkeeping (v : Int) : (writeDiff v s).bookkeeping = s.bookkeeping := rfl
@[simp] theorem writeRl_bookkeeping (l : List Pair) : (writeRl l s).bookkeeping = s.bookkeeping := rfl

variable (p : Params) (n : NumSystem ν) (l : Layer)

theorem ruleCfgq_keepsBookkeeping (q : Nat) : Effect.KeepsBookkeeping s (ruleCfgq q s) := by
  unfold ruleCfgq; split <;> simp [CoreState.bookkeeping]

theorem ruleLdx_keepsBookkeeping : Effect.KeepsBookkeeping s (ruleLdx s) := by
  unfold ruleLdx; split <;> simp [CoreState.bookkeeping]

theorem ruleStx_keepsBookkeeping : Effect.KeepsBookkeeping s (ruleStx s) := by
  unfold ruleStx; split <;> simp [CoreState.bookkeeping]

theorem ruleFdct_keepsBookkeeping : Effect.KeepsBookkeeping s (ruleFdct n s) := by
  unfold ruleFdct; split <;> simp

theorem ruleIdct_keepsBookkeeping : Effect.KeepsBookkeeping s (ruleIdct n s) := by
  unfold ruleIdct; split <;> simp

theorem ruleQnt_keepsBookkeeping : Effect.KeepsBookkeeping s (ruleQnt p n l s) := by
  unfold ruleQnt
  split_ifs
  · simp
  · simp
  · exact Effect.keepsBookkeeping_checkLimit _ _ _ _ (writeQb_bookkeeping s _)
  · simp

theorem ruleDqt_keepsBookkeeping : Effect.KeepsBookkeeping s (ruleDqt p n l s) := by
  unfold ruleDqt; split_ifs <;> simp

theorem ruleZz_keepsBookkeeping : Effect.KeepsBookkeeping s (ruleZz s) := by
  unfold ruleZz; split <;> simp

theorem ruleIzz_keepsBookkeeping : Effect.KeepsBookkeeping s (ruleIzz s) := by
  unfold ruleIzz; split <;> simp

theorem ruleDce_keepsBookkeeping : Effect.KeepsBookkeeping s (ruleDce p l s) := by
  unfold ruleDce; split_ifs <;> simp

theorem ruleDcd_keepsBookkeeping : Effect.KeepsBookkeeping s (ruleDcd p l s) := by
  unfold ruleDcd; split_ifs <;> simp

theorem ruleRle_keepsBookkeeping : Effect.KeepsBookkeeping s (ruleRle s) := by
  unfold ruleRle; split <;> simp

theorem ruleRld_keepsBookkeeping : Effect.KeepsBookkeeping s (ruleRld s) := by
  unfold ruleRld
  split
  · split
    · simp
    · split <;> simp
  · simp

theorem appendBits_keepsBookkeeping (k : Fin 4) (b : Bits) : Effect.KeepsBookkeeping s (appendBits p k b s) :=
  Effect.keepsBookkeeping_checkLimit _ _ _ _ rfl

theorem ruleHedc_keepsBookkeeping : Effect.KeepsBookkeeping s (ruleHedc p l s) := by
  unfold ruleHedc
  split_ifs
  · simp
  · split <;> simp [appendBits_keepsBookkeeping]
  · simp
  · simp

theorem ruleHeac_keepsBookkeeping : Effect.KeepsBookkeeping s (ruleHeac p l s) := by
  unfold ruleHeac
  split_ifs
  · simp
  · split <;> simp [appendBits_keepsBookkeeping]
  · simp

theorem takeDc_keepsBookkeeping (y : Symbol) (m : Nat) : Effect.KeepsBookkeeping s (takeDc p l y m s) :=
  Effect.keepsBookkeeping_checkLimit _ _ _ _ rfl

theorem commitAc_keepsBookkeeping (r : Except Raise (List Pair × Nat)) :
    Effect.KeepsBookkeeping s (commitAc p l r s) := by
  cases r with
  | error r => simp [commitAc]
  | ok out => exact Effect.keepsBookkeeping_checkLimit _ _ _ _ rfl

theorem ruleHddc_keepsBookkeeping : Effect.KeepsBookkeeping s (ruleHddc p l s) := by
  simp only [ruleHddc]
  split
  · simp
  · split <;> simp [takeDc_keepsBookkeeping]

theorem ruleHdac_keepsBookkeeping : Effect.KeepsBookkeeping s (ruleHdac p l s) := by
  simp only [ruleHdac]; split <;> simp [commitAc_keepsBookkeeping]

theorem ruleSlice_keepsBookkeeping : Effect.KeepsBookkeeping s (ruleSlice p s) := by
  unfold ruleSlice
  split
  · simp
  · split
    · simp
    · exact Effect.keepsBookkeeping_checkLimit _ _ _ _ rfl

theorem ruleEncblk_keepsBookkeeping : Effect.KeepsBookkeeping s (ruleEncblk p n l s) := by
  unfold ruleEncblk encodeChain
  split_ifs
  · simp
  · simp
  · simp
  · exact (((((((ruleLdx_keepsBookkeeping s).andThen (ruleFdct_keepsBookkeeping · n)).andThen
      (ruleQnt_keepsBookkeeping · p n l)).andThen ruleZz_keepsBookkeeping).andThen
      (ruleDce_keepsBookkeeping · p l)).andThen (ruleHedc_keepsBookkeeping · p l)).andThen
      ruleRle_keepsBookkeeping).andThen (ruleHeac_keepsBookkeeping · p l)

theorem ruleDecblk_keepsBookkeeping : Effect.KeepsBookkeeping s (ruleDecblk p n l s) := by
  unfold ruleDecblk decodeChain
  split_ifs
  · simp
  · simp
  · exact (((((((ruleHddc_keepsBookkeeping s p l).andThen (ruleDcd_keepsBookkeeping · p l)).andThen
      (ruleHdac_keepsBookkeeping · p l)).andThen ruleRld_keepsBookkeeping).andThen
      ruleIzz_keepsBookkeeping).andThen (ruleDqt_keepsBookkeeping · p n l)).andThen
      (ruleIdct_keepsBookkeeping · n)).andThen ruleStx_keepsBookkeeping

theorem symbolRule_keepsBookkeeping (y : Symbol) : Effect.KeepsBookkeeping s (symbolRule p y s) := by
  cases hy : y.type with
  | dc => simp only [symbolRule, hy, ruleDcSymbol]; split_ifs <;> simp [takeDc_keepsBookkeeping]
  | ac => simp only [symbolRule, hy, ruleAcSymbol]; split_ifs <;> simp [commitAc_keepsBookkeeping]

/-- No command's rule writes `CMDCNT` or the fault record: both are the command step's. -/
theorem commandRule?_keepsBookkeeping {i : Instr} {rule : CoreState ν → Effect ν}
    (h : commandRule? p n i = some rule) : Effect.KeepsBookkeeping s (rule s) := by
  unfold commandRule? at h
  split at h <;> cases h
  · simp
  · exact ruleCfgq_keepsBookkeeping s _
  · simp [ruleCfgg, CoreState.bookkeeping]
  · exact ruleLdx_keepsBookkeeping s
  · exact ruleStx_keepsBookkeeping s
  · exact ruleFdct_keepsBookkeeping s n
  · exact ruleIdct_keepsBookkeeping s n
  · exact ruleQnt_keepsBookkeeping s p n _
  · exact ruleDqt_keepsBookkeeping s p n _
  · exact ruleZz_keepsBookkeeping s
  · exact ruleIzz_keepsBookkeeping s
  · exact ruleDce_keepsBookkeeping s p _
  · exact ruleDcd_keepsBookkeeping s p _
  · exact ruleRle_keepsBookkeeping s
  · exact ruleRld_keepsBookkeeping s
  · exact ruleHedc_keepsBookkeeping s p _
  · exact ruleHeac_keepsBookkeeping s p _
  · exact ruleHddc_keepsBookkeeping s p _
  · exact ruleHdac_keepsBookkeeping s p _
  · simp [rulePack, CoreState.bookkeeping]
  · exact ruleSlice_keepsBookkeeping s p
  · exact ruleEncblk_keepsBookkeeping s p n _
  · exact ruleDecblk_keepsBookkeeping s p n _

/-- The command step counts once, whether it ignores the command, completes it, or takes its fault. -/
theorem commandStep_cmdCnt {rule : CoreState ν → Effect ν} (h : ∀ u, Effect.KeepsBookkeeping u (rule u)) :
    (commandStep rule s).cmdCnt = s.cmdCnt + 1 := by
  obtain ⟨-, ht⟩ | ⟨-, ht⟩ | ⟨-, r, -, ht⟩ := commandStep_cases rule s
  · rw [ht]; rfl
  · exact congrArg Prod.fst (h _ _ ht)
  · rw [ht]; rfl

/-- Every instruction counts once. -/
theorem coreExec_cmdCnt (i : Instr) : (coreExec p n i s).cmdCnt = s.cmdCnt + 1 := by
  by_cases hi : i = .clr
  · subst hi; rfl
  · obtain ⟨rule, hrule, h | ⟨y, -, rfl⟩⟩ := rule_of_ne_clr p n i hi
    · rw [hrule]; exact commandStep_cmdCnt s fun u => commandRule?_keepsBookkeeping u p n h
    · rw [hrule]; exact commandStep_cmdCnt s fun u => symbolRule_keepsBookkeeping u p y

end

/-- Settles O14: `exec` is `coreExec`, which counts, beside the parameters and the port it leaves alone; a step is idle
or `coreStep`. -/
theorem everyCommandAnswers : Obligations.EveryCommandAnswers := by
  refine ⟨fun i s => ⟨_, exec_eq_coreExec i s, coreExec_cmdCnt _ _ _ i, rfl, rfl⟩, fun s => ?_⟩
  cases h : s.cmdIn with
  | nil => exact ⟨s, by simp [step, fetch, h]⟩
  | cons w rest => exact ⟨_, step_eq_coreStep h⟩

end Sys2Proof.Machine

namespace Sys2Proof.Machine

open Sys2Proof.Laws (length_binOf)

/-! ### Numerals and literals (00_scope R12, 45_huffman R201 to R204) -/

/-- The loop of `val` from any value on: the bits already read stand above those still to come. -/
theorem foldl_valOf (b : Bits) (acc : Nat) :
    b.foldl (fun acc bit => 2 * acc + bit.toNat) acc = 2 ^ b.length * acc + valOf b := by
  induction b generalizing acc with
  | nil => simp [valOf]
  | cons x b ih => rw [valOf, List.foldl_cons, List.foldl_cons, ih, ih, List.length_cons]; ring

theorem valOf_cons (x : Bool) (b : Bits) : valOf (x :: b) = 2 ^ b.length * x.toNat + valOf b := by
  rw [valOf, List.foldl_cons, foldl_valOf, Nat.mul_zero, Nat.zero_add]

/-- The numeral of `k` in `n` bits has the value `k`, up to what does not fit (00_scope R12). -/
theorem valOf_binOf (n k : Nat) : valOf (binOf n k) = k % 2 ^ n := by
  induction n with
  | zero => simp [binOf, valOf, Nat.mod_one]
  | succ n ih => rw [binOf, valOf_cons, ih, length_binOf, Nat.mod_pow_succ, Nat.toNat_testBit, Nat.add_comm]

/-- The first bits of a numeral are the numeral of the leading part of the number. -/
theorem take_binOf {m n : Nat} (h : m ≤ n) (k : Nat) : (binOf n k).take m = binOf m (k >>> (n - m)) := by
  induction n generalizing m with
  | zero => obtain rfl := Nat.le_zero.mp h; rfl
  | succ n ih =>
    cases m with
    | zero => rfl
    | succ m =>
      have hm : m ≤ n := Nat.le_of_succ_le_succ h
      rw [binOf, List.take_succ_cons, ih hm, Nat.succ_sub_succ, binOf, Nat.testBit_shiftRight,
        Nat.sub_add_cancel hm]

/-- `category(v)` is the number of bits of `|v|` (45_huffman R201). -/
theorem two_pow_category {v : Int} (h : v ≠ 0) :
    2 ^ (category v - 1) ≤ v.natAbs ∧ v.natAbs < 2 ^ category v ∧ 2 ^ category v = 2 * 2 ^ (category v - 1) := by
  rw [category, if_neg h, Nat.add_sub_cancel]
  exact ⟨Nat.log2_self_le (Int.natAbs_ne_zero.mpr h), Nat.lt_log2_self, Nat.pow_succ'⟩

@[simp] theorem length_literal (v : Int) : (literal v).length = category v := length_binOf _ _

/-- A value is what its category and its literal say (45_huffman R204). -/
theorem unliteral_literal (v : Int) : unliteral (category v) (valOf (literal v)) = v := by
  rw [literal, valOf_binOf]
  by_cases h0 : v = 0
  · subst h0; rfl
  obtain ⟨hlow, hhigh, hpow⟩ := two_pow_category h0
  have hsize : category v ≠ 0 := by simp [category, h0]
  have hcast : (2 : Int) ^ category v = (2 ^ category v : Nat) := by simp
  rw [unliteral, if_neg hsize]
  by_cases hv : 0 ≤ v
  · rw [bandIndex, if_pos hv, Nat.mod_eq_of_lt (by omega), if_pos (by omega)]
    omega
  · rw [bandIndex, if_neg hv, hcast, Nat.mod_eq_of_lt (by omega), if_neg (by omega)]
    omega

/-! ### Reading back what the encoder wrote (45_huffman R205 to R207, R213) -/

theorem HTables.valid_get {h : HTables} (hv : h.valid = true) (ty : ValType) (l : Layer) :
    (h.get ty l).valid ty = true := by
  simp only [HTables.valid, Bool.and_eq_true] at hv
  obtain ⟨⟨⟨hdl, hdc⟩, hal⟩, hac⟩ := hv
  cases ty <;> cases l <;> assumption

theorem Code.clash_comm (c d : Code) : c.clash d = d.clash c := by
  have beq_comm : ∀ a b : Nat, Nat.beq a b = Nat.beq b a := fun a b => by
    rw [Bool.eq_iff_iff, Nat.beq_eq, Nat.beq_eq, eq_comm]
  rw [Code.clash, Code.clash, beq_comm c.run, beq_comm c.size, Bool.or_right_comm]

/-- Two entries of a valid table that clash are the same entry (45_huffman R192). -/
theorem HTable.eq_of_clash {ty : ValType} {t : HTable} (hv : t.valid ty = true) {c d : Code} (hc : c ∈ t.codes)
    (hd : d ∈ t.codes) (h : c.clash d = true) : c = d := by
  obtain ⟨-, -, hapart, -⟩ := (HTable.valid_iff ty t).mp hv
  by_contra hne
  have : Std.Symm fun x y : Code => x.clash y = false := ⟨fun x y hxy => by rw [Code.clash_comm, hxy]⟩
  have hno := ((codesApart_iff _).mp hapart).forall hc hd hne
  simp [h] at hno

@[simp] theorem Code.length_bits (c : Code) : c.bits.length = c.len := length_binOf _ _

/-- In a valid table the first `n` bits of a codeword are no other codeword: looked up, they give the codeword itself
when they are all of it, and nothing when they are not (45_huffman R192). -/
theorem HTable.entry?_take_bits {ty : ValType} {t : HTable} (hv : t.valid ty = true) {c : Code} (hc : c ∈ t.codes)
    {n : Nat} (hn : n ≤ c.len) : t.entry? n (valOf (c.bits.take n)) = if n = c.len then some c else none := by
  obtain ⟨-, hword, -, -⟩ := (HTable.valid_iff ty t).mp hv
  have hval : valOf (c.bits.take n) = c.word >>> (c.len - n) := by
    rw [Code.bits, take_binOf hn, valOf_binOf, Nat.mod_eq_of_lt]
    rw [Nat.shiftRight_eq_div_pow, Nat.div_lt_iff_lt_mul (Nat.two_pow_pos _), ← Nat.pow_add, Nat.add_sub_cancel' hn]
    exact (hword c hc).2
  have hself : ∀ d, t.entry? n (valOf (c.bits.take n)) = some d → d = c ∧ n = c.len := by
    intro d hd
    obtain ⟨hmem, hlen, hdw⟩ := entry?_some hd
    have hbegins : d.isPrefix c = true := by
      simp [Code.isPrefix, hlen, hn, hdw, hval]
    obtain rfl := HTable.eq_of_clash hv hmem hc (by simp [Code.clash, hbegins])
    exact ⟨rfl, hlen.symm⟩
  cases hd : t.entry? n (valOf (c.bits.take n)) with
  | some d =>
    obtain ⟨rfl, hlen⟩ := hself d hd
    rw [if_pos hlen]
  | none =>
    rw [if_neg]
    rintro rfl
    have := List.find?_eq_none.mp hd c hc
    simp [hval] at this

/-- Matching finds the codeword that stands at the head, whatever follows it (45_huffman R206). -/
theorem matchCode_bits {ty : ValType} {t : HTable} (hv : t.valid ty = true) {c : Code} (hc : c ∈ t.codes) (tail : Bits)
    {ns : List Nat} (hsorted : ns.Pairwise (· < ·)) (hmem : c.len ∈ ns) : matchCode t (c.bits ++ tail) ns = .ok c := by
  induction ns with
  | nil => cases hmem
  | cons n ns ih =>
    obtain ⟨hfirst, hrest⟩ := List.pairwise_cons.mp hsorted
    have hn : n ≤ c.len := by
      rcases List.mem_cons.mp hmem with h | h
      · exact h.ge
      · exact (hfirst _ h).le
    have htake : (c.bits ++ tail).take n = c.bits.take n := List.take_append_of_le_length (by simpa using hn)
    have hlen : ¬(c.bits.take n).length < n := by simp [hn]
    simp only [matchCode, htake, hlen, if_false, HTable.entry?_take_bits hv hc hn]
    by_cases h : n = c.len
    · simp [h]
    · simpa [h] using ih hrest ((List.mem_cons.mp hmem).resolve_left (Ne.symm h))

/-- A codeword and as many literal bits as it asks for are read as the symbol they are, whatever follows them
(45_huffman R207). -/
theorem readSymbol_code {h : HTables} (hv : h.valid = true) {ty : ValType} {l : Layer} {c : Code}
    (hc : c ∈ (h.get ty l).codes) {lit : Bits} (hlit : lit.length = c.size) (tail : Bits) :
    readSymbol h ty l (c.bits ++ lit ++ tail) = .ok (⟨ty, l, c.run, c.size, valOf lit⟩, c.len + c.size) := by
  have ht := HTables.valid_get hv ty l
  obtain ⟨-, -, -, hlens⟩ := (HTable.valid_iff ty _).mp ht
  have hmatch : matchCode (h.get ty l) (c.bits ++ lit ++ tail) (h.get ty l).lens = .ok c := by
    rw [hlens, List.append_assoc]
    exact matchCode_bits ht hc _ (lensOf_pairwise _) ((mem_lensOf _ _).mpr ⟨c, hc, rfl⟩)
  have hwin : window (c.bits ++ lit ++ tail) c.len c.size = lit := by
    rw [window, List.append_assoc, List.drop_left' c.length_bits, List.take_left' hlit]
  simp only [readSymbol, hmatch, hwin, hlit, lt_irrefl, if_false]

/-- The decoder reads the symbol `enc_dc` writes (45_huffman R205, R213). -/
theorem readSymbol_encDc {h : HTables} (hv : h.valid = true) {d : Int} {l : Layer} {b : Bits}
    (hb : encDc h d l = some b) (tail : Bits) :
    readSymbol h .dc l (b ++ tail) = .ok (⟨.dc, l, 0, category d, valOf (literal d)⟩, b.length) := by
  obtain ⟨c, hc, rfl⟩ := Option.map_eq_some_iff.mp hb
  obtain ⟨hmem, hrun, hsize⟩ := code?_some hc
  rw [readSymbol_code hv hmem (by simp [hsize]), hrun, hsize]
  simp

/-- The decoder reads the symbol `enc_ac` writes (45_huffman R205, R213). -/
theorem readSymbol_encAc {h : HTables} (hv : h.valid = true) {q : Pair} {l : Layer} {b : Bits}
    (hb : encAc h q l = some b) (tail : Bits) :
    readSymbol h .ac l (b ++ tail) = .ok (⟨.ac, l, q.run, category q.value, valOf (literal q.value)⟩, b.length) := by
  obtain ⟨c, hc, rfl⟩ := Option.map_eq_some_iff.mp hb
  obtain ⟨hmem, hrun, hsize⟩ := code?_some hc
  rw [readSymbol_code hv hmem (by simp [hsize]), hrun, hsize]
  simp

/-- The symbol read for a pair stands for that pair (45_huffman R207). -/
theorem pairOf_literal (l : Layer) (q : Pair) :
    pairOf ⟨.ac, l, q.run, category q.value, valOf (literal q.value)⟩ = q := by
  rw [pairOf, unliteral_literal]

/-- The bits of a list that can be coded are the first pair's and the others'. -/
theorem encPairs_cons_eq_ok {h : HTables} {l : Layer} {n : Nat} {q : Pair} {qs : List Pair} {b : Bits} :
    encPairs h l n (q :: qs) = .ok b ↔
      ∃ b₁ b₂, encAc h q l = some b₁ ∧ encPairs h l (n + 1) qs = .ok b₂ ∧ b = b₁ ++ b₂ := by
  rw [encPairs]
  cases encAc h q l with
  | none => simp
  | some b₁ => cases encPairs h l (n + 1) qs <;> simp [eq_comm]

theorem coeffCount_cons (q : Pair) (qs : List Pair) : coeffCount (q :: qs) = q.run + 1 + coeffCount qs := by
  simp [coeffCount]

theorem length_le_coeffCount (qs : List Pair) : qs.length ≤ coeffCount qs := by
  induction qs with
  | nil => simp
  | cons q qs ih => rw [coeffCount_cons, List.length_cons]; omega

/-- One turn of the loop of `HDAC` over a pair that is not EOB and stays within the block (45_huffman R212). -/
theorem hdacLoop_encAc {h : HTables} (hv : h.valid = true) {l : Layer} {q : Pair} (hq : q ≠ eob) {b : Bits}
    (hb : encAc h q l = some b) (turns : Nat) (tail : Bits) (p : Nat) (out : List Pair) {cnt : Nat}
    (hcnt : cnt + q.run + 1 ≤ 63) :
    hdacLoop h l (turns + 1) (b ++ tail) p out cnt =
      hdacLoop h l turns tail (p + b.length) (out ++ [q]) (cnt + q.run + 1) := by
  simp [hdacLoop, readSymbol_encAc hv hb, takeAc, pairOf_literal, hq, Nat.not_lt.mpr hcnt]

/-- The turn of the loop of `HDAC` that ends the block (45_huffman R212). -/
theorem hdacLoop_eob {h : HTables} (hv : h.valid = true) {l : Layer} {b : Bits} (hb : encAc h eob l = some b)
    (turns : Nat) (tail : Bits) (p : Nat) (out : List Pair) (cnt : Nat) :
    hdacLoop h l (turns + 1) (b ++ tail) p out cnt = .ok (out ++ [eob], p + b.length) := by
  simp [hdacLoop, readSymbol_encAc hv hb, takeAc, pairOf_literal]

/-- The loop of `HDAC` goes through the pairs of a block one turn each, and is then where their bits end, with those
pairs in hand and the turns that are left (45_huffman R212). -/
theorem hdacLoop_encPairs {h : HTables} (hv : h.valid = true) {l : Layer} (qs : List Pair) (hqs : eob ∉ qs) {n : Nat}
    {b : Bits} (hb : encPairs h l n qs = .ok b) (turns : Nat) (tail : Bits) (p : Nat) (out : List Pair) {cnt : Nat}
    (hcnt : cnt + coeffCount qs ≤ 63) :
    hdacLoop h l (turns + qs.length) (b ++ tail) p out cnt =
      hdacLoop h l turns tail (p + b.length) (out ++ qs) (cnt + coeffCount qs) := by
  induction qs generalizing n b p out cnt with
  | nil => cases hb; simp [coeffCount]
  | cons q qs ih =>
    obtain ⟨b₁, b₂, hb₁, hb₂, rfl⟩ := encPairs_cons_eq_ok.mp hb
    obtain ⟨hq, hqs⟩ := not_or.mp (List.mem_cons.not.mp hqs)
    rw [coeffCount_cons] at hcnt ⊢
    rw [List.length_cons, ← Nat.add_assoc, List.append_assoc,
      hdacLoop_encAc hv (Ne.symm hq) hb₁ _ _ _ _ (by omega), ih hqs hb₂ _ _ (by omega)]
    simp [Nat.add_assoc]

/-- The bits of two lists in a row are the bits of the first and then those of the second. -/
theorem encPairs_append_eq_ok {h : HTables} {l : Layer} {n : Nat} {ps qs : List Pair} {b : Bits}
    (hb : encPairs h l n (ps ++ qs) = .ok b) :
    ∃ b₁ b₂, encPairs h l n ps = .ok b₁ ∧ encPairs h l (n + ps.length) qs = .ok b₂ ∧ b = b₁ ++ b₂ := by
  induction ps generalizing n b with
  | nil => exact ⟨[], b, rfl, hb, rfl⟩
  | cons p ps ih =>
    obtain ⟨c, d, hc, hd, rfl⟩ := encPairs_cons_eq_ok.mp hb
    obtain ⟨b₁, b₂, h₁, h₂, rfl⟩ := ih hd
    refine ⟨c ++ b₁, b₂, encPairs_cons_eq_ok.mpr ⟨c, b₁, hc, h₁, rfl⟩, ?_, (List.append_assoc ..).symm⟩
    rwa [List.length_cons, Nat.add_comm ps.length, ← Nat.add_assoc]

/-- The loop of `HDAC` reads a block back: its pairs, EOB, and the position after it (45_huffman R212, R213). -/
theorem hdacLoop_block {h : HTables} (hv : h.valid = true) {l : Layer} {ps : List Pair} (hps : eob ∉ ps)
    (hcnt : coeffCount ps ≤ 63) {b : Bits} (hb : encPairs h l 0 (ps ++ [eob]) = .ok b) (tail : Bits) (p : Nat) :
    hdacLoop h l 64 (b ++ tail) p [] 0 = .ok (ps ++ [eob], p + b.length) := by
  obtain ⟨b₁, b₂, hb₁, hb₂, rfl⟩ := encPairs_append_eq_ok hb
  obtain ⟨b₃, _, hb₃, hnil, rfl⟩ := encPairs_cons_eq_ok.mp hb₂
  cases hnil
  have hlen := length_le_coeffCount ps
  have hturns : 64 = (63 - ps.length) + 1 + ps.length := by omega
  rw [hturns, List.append_assoc, hdacLoop_encPairs hv ps hps hb₁ _ _ _ _ (by omega), List.append_nil,
    hdacLoop_eob hv hb₃]
  simp [Nat.add_assoc]

/-! ### The faults of the limits (93_implementation_defined U6, U17; log 5) -/

theorem State.Accepts.layerBlocked {s : State} {l : Layer} (h : s.Accepts l) : s.layerBlocked l = false := by
  simpa [CoreState.layerBlocked] using h.2

/-- A rule that raises a limit's fault leaves that limit's fault state (60_exceptions R304). -/
theorem runCommand_limited {rule : CoreState NUM → Effect NUM} {s : State} {c : Limit} (h : s.faulted = false)
    (hr : rule (countCommand s.toCoreState) = .error (limitFault c (s.cmdCnt + 1))) :
    runCommand rule s = .next (s.limited c) :=
  runCommand_error rule s _ h hr

/-- All fit only if every one of the first part does. -/
theorem Params.fitsAll_append_eq_false {p : Params} {vs : List Int} (h : p.fitsAll vs = false) (ws : List Int) :
    p.fitsAll (vs ++ ws) = false := by
  rw [← Bool.not_eq_true, Params.fitsAll_iff] at h ⊢
  exact fun hall => h fun v hv => hall v (List.mem_append_left ws hv)

/-- An append that passes `SEGCAP` is the limit's fault. -/
theorem appendBits_limited {ν : Type} {p : Params} {k : Fin 4} {b : Bits} {u : CoreState ν}
    (h : p.holds (u.mem.len k + b.length) = false) : appendBits p k b u = .error (limitFault .segCap u.cmdCnt) := by
  rw [appendBits, h, checkLimit_false]

section

variable {s : State} {l : Layer}

theorem exec_qnt_limited (ha : s.Accepts l) (hq : s.quality ≠ 0) (hvx : s.vx = true)
    (hfit : s.params.fitsAll (quantize s.params exactSystem l s.quality s.xb).toList = false) :
    exec (.qnt l) s = .next (s.limited .intWidth) :=
  runCommand_limited (rule := ruleQnt s.params exactSystem l) ha.1 (by
    simp [ruleQnt, ha.layerBlocked, hq, hvx, hfit])

theorem exec_dce_limited (ha : s.Accepts l) (hvz : s.vz0 = true) (hfit : s.params.fits (s.zq[0] - s.predOf l) = false) :
    exec (.dce l) s = .next (s.limited .intWidth) :=
  runCommand_limited (rule := ruleDce s.params l) ha.1 (by simp [ruleDce, ha.layerBlocked, hvz, hfit])

theorem exec_dcd_limited (ha : s.Accepts l) (hvd : s.vd = true) (hfit : s.params.fits (s.predOf l + s.diff) = false) :
    exec (.dcd l) s = .next (s.limited .intWidth) :=
  runCommand_limited (rule := ruleDcd s.params l) ha.1 (by simp [ruleDcd, ha.layerBlocked, hvd, hfit])

/-- The symbol at the cursor is `enc_dc` of the difference that does not fit. -/
theorem exec_hddc_limited {d : Int} {b tail : Bits} (hv : s.params.hTables.valid = true) (ha : s.Accepts l)
    (hb : encDc s.params.hTables d l = some b) (hrest : s.mem.rest (segIx .dc l) = b ++ tail)
    (hfit : s.params.fits d = false) : exec (.hddc l) s = .next (s.limited .intWidth) :=
  runCommand_limited (rule := ruleHddc s.params l) ha.1 (by
    simp [ruleHddc, ha.layerBlocked, hrest, readSymbol_encDc hv hb, takeDc, unliteral_literal, hfit])

/-- The loop reads the block to its EOB; the check on the values comes after it. -/
theorem exec_hdac_limited {ps : List Pair} {b tail : Bits} (hv : s.params.hTables.valid = true) (ha : s.Accepts l)
    (hps : eob ∉ ps) (hcnt : coeffCount ps ≤ 63) (hb : encPairs s.params.hTables l 0 (ps ++ [eob]) = .ok b)
    (hrest : s.mem.rest (segIx .ac l) = b ++ tail) (hfit : s.params.fitsAll (ps.map fun p => p.value) = false) :
    exec (.hdac l) s = .next (s.limited .intWidth) :=
  runCommand_limited (rule := ruleHdac s.params l) ha.1 (by
    simp [ruleHdac, ha.layerBlocked, hrest, hdacLoop_block hv hps hcnt hb, commitAc,
      Params.fitsAll_append_eq_false hfit])

theorem exec_hedc_limited {b : Bits} (ha : s.Accepts l) (hvd : s.vd = true) (hlow : -2047 ≤ s.diff)
    (hhigh : s.diff ≤ 2047) (hb : encDc s.params.hTables s.diff l = some b)
    (hcap : s.params.holds (s.mem.len (segIx .dc l) + b.length) = false) :
    exec (.hedc l) s = .next (s.limited .segCap) :=
  runCommand_limited (rule := ruleHedc s.params l) ha.1 (by
    simp [ruleHedc, ha.layerBlocked, hvd, hlow, hhigh, hb, appendBits_limited, hcap])

theorem exec_heac_limited {b : Bits} (ha : s.Accepts l) (hvr : s.vr = true)
    (hb : encPairs s.params.hTables l 0 s.rl = .ok b)
    (hcap : s.params.holds (s.mem.len (segIx .ac l) + b.length) = false) :
    exec (.heac l) s = .next (s.limited .segCap) :=
  runCommand_limited (rule := ruleHeac s.params l) ha.1 (by
    simp [ruleHeac, ha.layerBlocked, hvr, hb, appendBits_limited, hcap])

/-- One segment too long is enough: `SLICE` checks all four. -/
theorem exec_slice_limited {r : Record} {rest : List Record} {k : Fin 4} (hf : s.faulted = false)
    (hbin : s.bin = r :: rest) (hheader : headerFault s.nseg r = none)
    (hcap : s.params.holds (sliceSegs s.params.bitOrder r)[k].length = false) :
    exec .slice s = .next (s.limited .segCap) := by
  have hall : ((sliceSegs s.params.bitOrder r).toList.all fun b => s.params.holds b.length) = false :=
    List.all_eq_false.mpr ⟨_, Vector.mem_toList_iff.mpr (Vector.getElem_mem k.isLt), by simpa using hcap⟩
  exact runCommand_limited (rule := ruleSlice s.params) hf (by
    simp only [ruleSlice, countCommand_bin, countCommand_nseg, hbin, hheader, hall]; rfl)

end

/-- Settles O54: each writer's limit check comes last, and fails; the two decoders have read back what was
encoded. -/
theorem limitFaults : Obligations.LimitFaults :=
  ⟨fun _ _ => exec_qnt_limited, fun _ _ => exec_dce_limited, fun _ _ => exec_dcd_limited,
    fun _ _ _ _ _ => exec_hddc_limited, fun _ _ _ _ _ => exec_hdac_limited, fun _ _ _ => exec_hedc_limited,
    fun _ _ _ => exec_heac_limited, fun _ _ _ _ => exec_slice_limited⟩

end Sys2Proof.Machine

namespace Sys2Proof.Machine

/-! ### The invariant, without the fault record, which only the command step writes -/

/-- The part of `State.Inv` that a rule can change: everything but the fault record. -/
structure CoreState.Sound {ν : Type} (p : Params) (s : CoreState ν) : Prop where
  valid : p.valid = true
  memWf : s.mem.wf = true
  quality_le : s.quality ≤ 95
  remBits_le : s.remBits ≤ 7
  rlForm : s.vr = true → RlForm s.rl
  bout : ∀ r ∈ s.bout, r.Sound
  qbFits : p.fitsAll s.qb.toList = true
  zqFits : p.fitsAll s.zq.toList = true
  diffFits : p.fits s.diff = true
  rlFits : p.fitsAll (s.rl.map fun q => q.value) = true
  lumFits : p.fits s.predLum = true
  chrFits : p.fits s.predChr = true
  segHolds : ∀ k : Fin 4, p.holds (s.mem.len k) = true

/-- `State.FaultRecord` of the architectural state. -/
def CoreState.RecordSound {ν : Type} (s : CoreState ν) : Prop :=
  (s.faulted = true ↔ s.err ≠ .none) ∧ (s.err = .none → s.errInfo = 0) ∧
    (s.err ≠ .noMatch → s.err ≠ .underrun → s.errSeg = 0)

/-- The invariant is soundness of the registers and the memory, and of the fault record. -/
theorem State.inv_iff (s : State) : s.Inv ↔ s.toCoreState.Sound s.params ∧ s.toCoreState.RecordSound := by
  constructor
  · rintro ⟨hvalid, hmem, hquality, hrem, hrecord, hrl, hbout, hqb, hzq, hdiff, hrlFits, hlum, hchr, hseg⟩
    exact ⟨⟨hvalid, hmem, hquality, hrem, hrl, hbout, hqb, hzq, hdiff, hrlFits, hlum, hchr, hseg⟩, hrecord⟩
  · rintro ⟨h, hrecord⟩
    exact ⟨h.valid, h.memWf, h.quality_le, h.remBits_le, hrecord, h.rlForm, h.bout, h.qbFits, h.zqFits, h.diffFits,
      h.rlFits, h.lumFits, h.chrFits, h.segHolds⟩

/-- All the elements of a vector fit when the element at each index does. -/
theorem Params.fitsAll_toList_iff {n : Nat} (p : Params) (v : Vector Int n) :
    p.fitsAll v.toList = true ↔ ∀ k : Fin n, p.fits v[k] = true := by
  rw [Params.fitsAll_iff]
  constructor
  · exact fun h k => h _ (Vector.mem_toList_iff.mpr (Vector.getElem_mem k.isLt))
  · intro h x hx
    obtain ⟨i, hi, rfl⟩ := Vector.getElem_of_mem (Vector.mem_toList_iff.mp hx)
    exact h ⟨i, hi⟩

@[simp] theorem Memory.empty_seg (k : Nat) (hk : k < 4) : Memory.empty.seg[k] = [] := by
  simp [Memory.empty]

@[simp] theorem Memory.empty_cur (k : Nat) (hk : k < 4) : Memory.empty.cur[k] = 0 := by
  simp [Memory.empty]

@[simp] theorem Memory.empty_len (k : Fin 4) : Memory.empty.len k = 0 := by
  simp [Memory.len]

theorem Params.holds_zero (p : Params) : p.holds 0 = true := by
  cases h : p.segCap <;> simp [Params.holds, h]

namespace CoreState.Sound

variable {ν : Type} {p : Params} {s : CoreState ν} (h : s.Sound p)
include h

/-! Every update of the state keeps it, given that what is written is in order. -/

theorem writeXb (b : Block ν) : (writeXb b s).Sound p := { h with }

theorem writeQb {b : Block Int} (hb : p.fitsAll b.toList = true) : (writeQb b s).Sound p :=
  { h with qbFits := hb }

theorem writeZq {z : Vector Int 64} (hz : p.fitsAll z.toList = true) : (writeZq z s).Sound p :=
  { h with zqFits := hz }

theorem writeZq0 {v : Int} (hv : p.fits v = true) : (writeZq0 v s).Sound p := by
  refine { h with zqFits := (p.fitsAll_toList_iff _).mpr fun k => ?_ }
  have hold := (p.fitsAll_toList_iff _).mp h.zqFits k
  by_cases hk : k = 0
  · subst hk; simpa using hv
  · have hk' : 0 ≠ k.val := fun e => hk (Fin.ext e.symm)
    simpa [Vector.getElem_set, hk'] using hold

theorem writeZqAc {ac : List Int} (hac : ∀ v ∈ ac, p.fits v = true) : (writeZqAc ac s).Sound p := by
  refine { h with zqFits := (p.fitsAll_toList_iff _).mpr fun k => ?_ }
  have hold := (p.fitsAll_toList_iff _).mp h.zqFits k
  have hget : ∀ i, p.fits (ac.getD i 0) = true := fun i => by
    cases hi : ac[i]? with
    | none => simp [List.getD, hi, Params.fits_zero]
    | some x => simpa [List.getD, hi] using hac x (List.mem_of_getElem? hi)
  by_cases hk : k.val = 0
  · simpa [hk] using hold
  · simpa [hk] using hget (k.val - 1)

theorem writeDiff {v : Int} (hv : p.fits v = true) : (writeDiff v s).Sound p :=
  { h with diffFits := hv }

theorem writeRl {l : List Pair} (hform : RlForm l) (hfits : p.fitsAll (l.map fun q => q.value) = true) :
    (writeRl l s).Sound p :=
  { h with rlForm := fun _ => hform, rlFits := hfits }

theorem setPred (l : Layer) {v : Int} (hv : p.fits v = true) : (setPred l v s).Sound p := by
  cases l with
  | lum => exact { h with lumFits := hv }
  | chr => exact { h with chrFits := hv }

theorem setCur {k : Fin 4} {q : Nat} (hq : q ≤ s.mem.len k) :
    ({ s with mem := s.mem.setCur k q } : CoreState ν).Sound p :=
  { h with memWf := Memory.wf_setCur _ _ _ h.memWf hq }

theorem append {k : Fin 4} {b : Bits} (hb : p.holds (s.mem.len k + b.length) = true) :
    ({ s with mem := s.mem.append k b } : CoreState ν).Sound p := by
  refine { h with memWf := Memory.wf_append _ _ _ h.memWf, segHolds := fun j => ?_ }
  rw [Memory.len, Memory.append_seg]
  split
  · rwa [List.length_append]
  · exact h.segHolds j

theorem countCommand : (countCommand s).Sound p := { h with }

theorem takeFault (r : Raise) : (takeFault r s).Sound p := { h with }

theorem clearSession : (clearSession s).Sound p :=
  { h with
    memWf := Memory.wf_empty, quality_le := Nat.zero_le _, remBits_le := Nat.zero_le _, rlForm := nofun,
    lumFits := p.fits_zero, chrFits := p.fits_zero, segHolds := fun k => by simp [Params.holds_zero] }

end CoreState.Sound

/-! ### What a command may write (10_state R47) -/

/-- The piece is the same in both architectural states. -/
def Piece.SameIn {ν : Type} (x : Piece) (s t : CoreState ν) : Prop :=
  match x with
  | .xb => t.xb = s.xb ∧ t.vx = s.vx
  | .qb => t.qb = s.qb ∧ t.vq = s.vq
  | .zq0 => t.zq[0] = s.zq[0] ∧ t.vz0 = s.vz0
  | .zqAc => (∀ k : Fin 64, k ≠ 0 → t.zq[k] = s.zq[k]) ∧ t.vza = s.vza
  | .diff => t.diff = s.diff ∧ t.vd = s.vd
  | .rl => t.rl = s.rl ∧ t.vr = s.vr
  | .pred l => t.predOf l = s.predOf l
  | .seg k => t.mem.seg[k] = s.mem.seg[k]
  | .cur k => t.mem.cur[k] = s.mem.cur[k]
  | .quality => t.quality = s.quality
  | .grey => t.grey = s.grey
  | .remBits => t.remBits = s.remBits
  | .xin => t.xin = s.xin
  | .xout => t.xout = s.xout
  | .bin => t.bin = s.bin
  | .bout => t.bout = s.bout

theorem Piece.same_iff (x : Piece) (s t : State) : x.Same s t ↔ x.SameIn s.toCoreState t.toCoreState := by
  cases x <;> exact Iff.rfl

theorem Piece.SameIn.trans {ν : Type} {x : Piece} {s t u : CoreState ν} (h : x.SameIn s t) (h' : x.SameIn t u) :
    x.SameIn s u := by
  cases x <;> simp_all [Piece.SameIn]

/-- The valid flag of a data register (10_state R28); the other pieces have none. -/
def Piece.flag {ν : Type} (x : Piece) (s : CoreState ν) : Bool :=
  match x with
  | .xb => s.vx
  | .qb => s.vq
  | .zq0 => s.vz0
  | .zqAc => s.vza
  | .diff => s.vd
  | .rl => s.vr
  | _ => false

/-- `t` is `s` but for the pieces `ps`, and every valid flag of `s` still stands. -/
structure CoreState.Writes {ν : Type} (ps : List Piece) (s t : CoreState ν) : Prop where
  same : ∀ x, x ∉ ps → x.SameIn s t
  flags : ∀ x, Piece.flag x s = true → Piece.flag x t = true

namespace CoreState.Writes

variable {ν : Type} {ps : List Piece} {s t u : CoreState ν}

theorem refl (s : CoreState ν) : s.Writes ps s :=
  ⟨fun x _ => by cases x <;> simp [Piece.SameIn], fun _ h => h⟩

theorem trans (h : s.Writes ps t) (h' : t.Writes ps u) : s.Writes ps u where
  same x hx := (h.same x hx).trans (h'.same x hx)
  flags x hx := h'.flags x (h.flags x hx)

theorem mono {qs : List Piece} (h : s.Writes ps t) (hsub : ps ⊆ qs) : s.Writes qs t :=
  ⟨fun x hx => h.same x fun hmem => hx (hsub hmem), h.flags⟩

theorem intro (h : ∀ x, (x ∉ ps → x.SameIn s t) ∧ (Piece.flag x s = true → Piece.flag x t = true)) : s.Writes ps t :=
  ⟨fun x => (h x).1, fun x => (h x).2⟩

/-! Every update of the state writes the piece it names. -/

theorem writeXb (hx : .xb ∈ ps) (b : Block ν) : s.Writes ps (writeXb b s) :=
  intro fun x => by cases x <;> simp_all [Piece.SameIn, Piece.flag, CoreState.predOf]

theorem writeQb (hx : .qb ∈ ps) (b : Block Int) : s.Writes ps (writeQb b s) :=
  intro fun x => by cases x <;> simp_all [Piece.SameIn, Piece.flag, CoreState.predOf]

theorem writeZq (h0 : .zq0 ∈ ps) (hac : .zqAc ∈ ps) (z : Vector Int 64) : s.Writes ps (writeZq z s) :=
  intro fun x => by cases x <;> simp_all [Piece.SameIn, Piece.flag, CoreState.predOf]

theorem writeZq0 (hx : .zq0 ∈ ps) (v : Int) : s.Writes ps (writeZq0 v s) := by
  have hset : ∀ k : Fin 64, k ≠ 0 → (s.zq.set 0 v)[k] = s.zq[k] := fun k hk => by
    simp [Vector.getElem_set_ne _ _ fun e : 0 = k.val => hk (Fin.ext e.symm)]
  exact intro fun x => by cases x <;> simp_all [Piece.SameIn, Piece.flag, CoreState.predOf]

theorem writeZqAc (hx : .zqAc ∈ ps) (ac : List Int) : s.Writes ps (writeZqAc ac s) :=
  intro fun x => by cases x <;> simp_all [Piece.SameIn, Piece.flag, CoreState.predOf]

theorem writeDiff (hx : .diff ∈ ps) (v : Int) : s.Writes ps (writeDiff v s) :=
  intro fun x => by cases x <;> simp_all [Piece.SameIn, Piece.flag, CoreState.predOf]

theorem writeRl (hx : .rl ∈ ps) (l : List Pair) : s.Writes ps (writeRl l s) :=
  intro fun x => by cases x <;> simp_all [Piece.SameIn, Piece.flag, CoreState.predOf]

theorem setPred {l : Layer} (hx : .pred l ∈ ps) (v : Int) : s.Writes ps (setPred l v s) := by
  have hother : ∀ l', .pred l' ∉ ps → (Machine.setPred l v s).predOf l' = s.predOf l' := fun l' h => by
    have hne : l ≠ l' := by rintro rfl; exact h hx
    cases l <;> cases l' <;> simp_all [CoreState.predOf]
  exact intro fun x => by cases x <;> simp_all [Piece.SameIn, Piece.flag]

theorem append {k : Fin 4} (hx : .seg k ∈ ps) (b : Bits) :
    s.Writes ps { s with mem := s.mem.append k b } := by
  have hother : ∀ j, .seg j ∉ ps → (s.mem.append k b).seg[j] = s.mem.seg[j] := fun j h => by
    rw [Memory.append_seg, if_neg (by rintro rfl; exact h hx)]
  exact intro fun x => by cases x <;> simp_all [Piece.SameIn, Piece.flag, CoreState.predOf]

theorem setCur {k : Fin 4} (hx : .cur k ∈ ps) (q : Nat) :
    s.Writes ps { s with mem := s.mem.setCur k q } := by
  have hother : ∀ j, .cur j ∉ ps → (s.mem.setCur k q).cur[j] = s.mem.cur[j] := fun j h => by
    rw [Memory.setCur_cur, if_neg (by rintro rfl; exact h hx)]
  exact intro fun x => by cases x <;> simp_all [Piece.SameIn, Piece.flag, CoreState.predOf]

theorem mem (hseg : ∀ k, .seg k ∈ ps) (hcur : ∀ k, .cur k ∈ ps) (m : Memory) : s.Writes ps { s with mem := m } :=
  intro fun x => by cases x <;> simp_all [Piece.SameIn, Piece.flag, CoreState.predOf]

theorem quality (hx : .quality ∈ ps) (q : Nat) : s.Writes ps { s with quality := q } :=
  intro fun x => by cases x <;> simp_all [Piece.SameIn, Piece.flag, CoreState.predOf]

theorem grey (hx : .grey ∈ ps) (g : Bool) : s.Writes ps { s with grey := g } :=
  intro fun x => by cases x <;> simp_all [Piece.SameIn, Piece.flag, CoreState.predOf]

theorem remBits (hx : .remBits ∈ ps) (n : Nat) : s.Writes ps { s with remBits := n } :=
  intro fun x => by cases x <;> simp_all [Piece.SameIn, Piece.flag, CoreState.predOf]

theorem xin (hx : .xin ∈ ps) (q : List (Block ν)) : s.Writes ps { s with xin := q } :=
  intro fun x => by cases x <;> simp_all [Piece.SameIn, Piece.flag, CoreState.predOf]

theorem xout (hx : .xout ∈ ps) (q : List (Block ν)) : s.Writes ps { s with xout := q } :=
  intro fun x => by cases x <;> simp_all [Piece.SameIn, Piece.flag, CoreState.predOf]

theorem bin (hx : .bin ∈ ps) (q : List Record) : s.Writes ps { s with bin := q } :=
  intro fun x => by cases x <;> simp_all [Piece.SameIn, Piece.flag, CoreState.predOf]

theorem bout (hx : .bout ∈ ps) (q : List Record) : s.Writes ps { s with bout := q } :=
  intro fun x => by cases x <;> simp_all [Piece.SameIn, Piece.flag, CoreState.predOf]

theorem countCommand : s.Writes ps (countCommand s) :=
  intro fun x => by cases x <;> simp [Piece.SameIn, Piece.flag]

theorem takeFault (r : Raise) : s.Writes ps (takeFault r s) :=
  intro fun x => by cases x <;> simp [Piece.SameIn, Piece.flag, CoreState.predOf]

end CoreState.Writes
end Sys2Proof.Machine

namespace Sys2Proof.Machine

/-! ### What the coders answer is of the form of rule R25 -/

/-- A pair that may stand before the EOB of `RL` (10_state R25). -/
def Pair.Inner (q : Pair) : Prop :=
  q ≠ eob ∧ q.run ≤ 15

/-- Such pairs, for at most 63 coefficients, and then EOB. -/
theorem rlForm_block {ps : List Pair} (hin : ∀ q ∈ ps, q.Inner) (hcnt : coeffCount ps ≤ 63) : RlForm (ps ++ [eob]) := by
  have hlen := length_le_coeffCount ps
  refine ⟨?_, by simp, ?_, ?_, ?_⟩
  · rw [List.length_append, List.length_singleton]; omega
  · rw [List.dropLast_concat]; exact fun h => (hin _ h).1 rfl
  · intro q hq
    rcases List.mem_append.mp hq with h | h
    · exact (hin q h).2
    · rw [List.mem_singleton.mp h]; decide
  · rw [List.dropLast_concat]; exact hcnt

theorem coeffCount_append (ps qs : List Pair) : coeffCount (ps ++ qs) = coeffCount ps + coeffCount qs := by
  simp [coeffCount]

/-- What `RLE` makes of a coefficient sequence with `run` zeros before it (44_rle_coder R181). -/
theorem rleFrom_block (run : Nat) (ac : List Int) :
    ∃ ps, rleFrom run ac = ps ++ [eob] ∧ (∀ q ∈ ps, q.Inner ∧ (q.value = 0 ∨ q.value ∈ ac)) ∧
      coeffCount ps ≤ run + ac.length := by
  induction ac generalizing run with
  | nil => exact ⟨[], rfl, by simp, by simp [coeffCount]⟩
  | cons v t ih =>
    by_cases hv : v = 0
    · obtain ⟨ps, hps, hin, hcnt⟩ := ih (run + 1)
      refine ⟨ps, by rw [rleFrom, if_pos hv, hps], fun q hq => ⟨(hin q hq).1, ?_⟩, by rw [List.length_cons]; omega⟩
      exact (hin q hq).2.imp_right (List.mem_cons_of_mem v)
    · obtain ⟨ps, hps, hin, hcnt⟩ := ih 0
      refine ⟨List.replicate (run / 16) zrl ++ ⟨run % 16, v⟩ :: ps, by rw [rleFrom, if_neg hv, hps]; simp, ?_, ?_⟩
      · intro q hq
        rcases List.mem_append.mp hq with hz | hq
        · rw [List.eq_of_mem_replicate hz]
          exact ⟨⟨by decide, by decide⟩, .inl rfl⟩
        · rcases List.mem_cons.mp hq with rfl | hq
          · exact ⟨⟨by simp [eob, hv], by show run % 16 ≤ 15; omega⟩, .inr List.mem_cons_self⟩
          · exact ⟨(hin q hq).1, (hin q hq).2.imp_right (List.mem_cons_of_mem v)⟩
      · have hz : coeffCount (List.replicate (run / 16) zrl) = run / 16 * 16 := by simp [coeffCount, zrl]
        rw [coeffCount_append, hz, coeffCount_cons, List.length_cons]
        show run / 16 * 16 + (run % 16 + 1 + coeffCount ps) ≤ _
        omega

theorem length_acOf (z : Vector Int 64) : (acOf z).length = 63 := by
  simp [acOf]

theorem mem_acOf {z : Vector Int 64} {v : Int} (h : v ∈ acOf z) : v ∈ z.toList :=
  List.mem_of_mem_tail h

/-- The coefficients pairs expand to are zeros and the pairs' values (44_rle_coder R183). -/
theorem mem_expand {ps : List Pair} {out : List Int} (h : expand ps = some out) {v : Int} (hv : v ∈ out) :
    v = 0 ∨ v ∈ ps.map fun q => q.value := by
  induction ps generalizing out with
  | nil => cases h
  | cons q t ih =>
    rw [expand] at h
    split at h
    · cases h; cases hv
    · obtain ⟨rest, hrest, rfl⟩ := Option.map_eq_some_iff.mp h
      rcases List.mem_append.mp hv with hz | hv
      · exact .inl (List.eq_of_mem_replicate hz)
      · rcases List.mem_cons.mp hv with rfl | hv
        · exact .inr List.mem_cons_self
        · exact (ih hrest hv).imp_right (List.mem_cons_of_mem _)

/-- No symbol has a run above 15 (30_encoding R98). -/
theorem Instr.symbol?_run_le {i : Instr} {y : Symbol} (h : i.symbol? = some y) : y.run ≤ 15 := by
  have hall : ∀ j : Instr, (j.symbol?.all fun y => Nat.ble y.run 15) = true := fun j => by cases j <;> rfl
  simpa [h] using hall i

/-- No key of a valid table has a run above 15 (45_huffman R190). -/
theorem readSymbol_run_le {h : HTables} (hv : h.valid = true) {ty : ValType} {l : Layer} {rest : Bits} {y : Symbol}
    {n : Nat} (hr : readSymbol h ty l rest = .ok (y, n)) : y.run ≤ 15 := by
  obtain ⟨-, -, -, c, hc, hrun, -⟩ := readSymbol_ok hr
  obtain ⟨-, hkeys, -, -⟩ := (HTable.valid_iff ty _).mp (HTables.valid_get hv ty l)
  have hkey := (hkeys c hc).1
  rw [hrun]
  cases ty <;> simp [ValType.hasKey] at hkey <;> omega

/-- What the loop of `HDAC` is for: from a block begun with `out`, of `cnt` coefficients, it answers a whole block and a
position within the segment (45_huffman R212). -/
def ReadsBlock (go : Bits → Nat → List Pair → Nat → Except Raise (List Pair × Nat)) : Prop :=
  ∀ rest p out cnt ps q, go rest p out cnt = .ok (ps, q) → (∀ x ∈ out, x.Inner) → coeffCount out = cnt → cnt ≤ 63 →
    RlForm ps ∧ q ≤ p + rest.length

theorem ReadsBlock.takeAc {go : Bits → Nat → List Pair → Nat → Except Raise (List Pair × Nat)} (hgo : ReadsBlock go)
    {y : Symbol} (hrun : y.run ≤ 15) {rest : Bits} {n : Nat} (hn : n ≤ rest.length) {p : Nat} {out : List Pair}
    {cnt : Nat} {ps : List Pair} {q : Nat} (h : takeAc y n go rest p out cnt = .ok (ps, q)) (hin : ∀ x ∈ out, x.Inner)
    (hout : coeffCount out = cnt) (hcnt : cnt ≤ 63) : RlForm ps ∧ q ≤ p + rest.length := by
  obtain ⟨-, ht⟩ | ⟨-, -, ht⟩ | ⟨hne, hle, ht⟩ := takeAc_cases y n go rest p out cnt
  · cases ht.symm.trans h
    exact ⟨rlForm_block hin (hout ▸ hcnt), by omega⟩
  · cases ht.symm.trans h
  · have hnext := hgo _ _ _ _ ps q (ht.symm.trans h)
      (List.forall_mem_append.mpr ⟨hin, List.forall_mem_singleton.mpr ⟨hne, hrun⟩⟩)
      (by rw [coeffCount_append, hout, coeffCount_cons]; rfl) hle
    rw [List.length_drop] at hnext
    exact ⟨hnext.1, by omega⟩

theorem hdacLoop_readsBlock {h : HTables} (hv : h.valid = true) (l : Layer) (turns : Nat) :
    ReadsBlock (hdacLoop h l turns) := by
  induction turns with
  | zero => intro rest p out cnt ps q hr; cases hr
  | succ turns ih =>
    intro rest p out cnt ps q hr hin hout hcnt
    simp only [hdacLoop] at hr
    split at hr
    · cases hr
    · next y n hy =>
      obtain ⟨-, -, hn, -⟩ := readSymbol_ok hy
      exact ih.takeAc (readSymbol_run_le hv hy) hn hr hin hout hcnt

/-! ### Raised faults -/

/-- A raised fault is one of the nine, with the segment 0 but for the two decode faults (60_exceptions R301). -/
def Raise.Proper (r : Raise) : Prop :=
  r.code ≠ .none ∧ (r.code ≠ .noMatch → r.code ≠ .underrun → r.seg = 0)

@[simp] theorem Raise.proper_zero (c : ErrCode) (info : Int) : (⟨c, info, 0⟩ : Raise).Proper ↔ c ≠ .none := by
  simp [Raise.Proper]

@[simp] theorem seqFault_proper (w : Nat) : (seqFault w).Proper := by
  simp [seqFault]

@[simp] theorem limitFault_proper (c : Limit) (n : Nat) : (limitFault c n).Proper :=
  ⟨limitFault_code_ne_none c n, fun _ _ => rfl⟩

@[simp] theorem symbolRaise_proper (e : SymbolFault) (p : Nat) (k : Fin 4) : (symbolRaise e p k).Proper := by
  cases e <;> simp [symbolRaise, Raise.Proper]

/-- The loop's turn raises a count fault or what the next turn raises. -/
theorem takeAc_error_proper {y : Symbol} {n : Nat} {go : Bits → Nat → List Pair → Nat → Except Raise (List Pair × Nat)}
    {r : Raise} (hgo : ∀ rest p out cnt, go rest p out cnt = .error r → r.Proper) {rest : Bits} {p : Nat}
    {out : List Pair} {cnt : Nat} (h : takeAc y n go rest p out cnt = .error r) : r.Proper := by
  obtain ⟨-, ht⟩ | ⟨-, -, ht⟩ | ⟨-, -, ht⟩ := takeAc_cases y n go rest p out cnt
  · cases ht.symm.trans h
  · cases ht.symm.trans h; simp
  · exact hgo _ _ _ _ (ht.symm.trans h)

theorem hdacLoop_error_proper (h : HTables) (l : Layer) (turns : Nat) (rest : Bits) (p : Nat) (out : List Pair)
    (cnt : Nat) {r : Raise} (hr : hdacLoop h l turns rest p out cnt = .error r) : r.Proper := by
  induction turns generalizing rest p out cnt with
  | zero => cases hr; simp
  | succ turns ih =>
    simp only [hdacLoop] at hr
    split at hr
    · cases hr; simp
    · exact takeAc_error_proper ih hr

/-! ### Records -/

theorem padding_le (total : Nat) : padding total ≤ 7 := by
  unfold padding; omega

/-- `n` whole bytes of bits are `n` bytes (47_packer R242). -/
theorem length_bytesOf (o : BitOrder) (n : Nat) (b : Bits) (h : b.length = 8 * n) : (bytesOf o b).length = n := by
  induction n generalizing b with
  | zero => rw [List.length_eq_zero_iff.mp h]; rfl
  | succ n ih =>
    match b, h with
    | b0 :: b1 :: b2 :: b3 :: b4 :: b5 :: b6 :: b7 :: t, h =>
      rw [bytesOf, List.length_cons, ih t (by simp only [List.length_cons] at h; omega)]

/-- What `PACK` emits is a record as rule R246 of 47_packer has it. -/
theorem packRecord_sound {ν : Type} (p : Params) (s : CoreState ν) : (packRecord p s).Sound := by
  have hpad := padding_le s.activeSegs.flatten.length
  have hsum : (s.activeSegs.map fun b => (b.length : Int)).sum = s.activeSegs.flatten.length := by
    simp [List.length_flatten, Function.comp_def]
  have hdata : (bytesOf p.bitOrder (s.activeSegs.flatten ++
      List.replicate (padding s.activeSegs.flatten.length) false)).length =
        (s.activeSegs.flatten.length + padding s.activeSegs.flatten.length) / 8 := by
    refine length_bytesOf _ _ _ ?_
    rw [List.length_append, List.length_replicate]
    unfold padding; omega
  refine ⟨?_, ?_, ?_, ?_, ?_⟩
  · cases hg : s.grey <;> simp [packRecord, CoreState.activeSegs, CoreState.nseg, hg]
  · simp only [packRecord, List.mem_map]
    rintro _ ⟨b, -, rfl⟩
    exact Int.natCast_nonneg _
  · exact Int.natCast_nonneg _
  · exact Int.ofNat_le.mpr hpad
  · simp only [packRecord, hsum, hdata]
    unfold padding; omega

/-- A record passes the four checks of `SLICE` (47_packer R244). -/
theorem headerFault_eq_none {n : Nat} {r : Record} (h : headerFault n r = none) :
    r.sliceLengths.length = n ∧ (∀ k ∈ r.sliceLengths, 0 ≤ k) ∧ 0 ≤ r.remainingBits ∧ r.remainingBits ≤ 7 ∧
      r.sliceLengths.sum + r.remainingBits = 8 * (r.data.length : Int) := by
  unfold headerFault at h
  split_ifs at h with hlen hneg hrem hsum
  simp only [List.any_eq_true, decide_eq_true_eq, not_exists, not_and, not_lt] at hneg
  exact ⟨not_not.mp hlen, hneg, by omega, by omega, not_not.mp hsum⟩

end Sys2Proof.Machine

namespace Sys2Proof.Machine

/-! ### What every rule does: it keeps the invariant, writes its row, raises proper faults -/

/-- What a rule may answer on `s`: a state that is sound if `s` is and differs in the pieces `ps` alone, or a proper
fault. -/
def Effect.Lawful {ν : Type} (p : Params) (ps : List Piece) (s : CoreState ν) (e : Effect ν) : Prop :=
  match e with
  | .ok t => (s.Sound p → t.Sound p) ∧ s.Writes ps t
  | .error r => r.Proper

namespace Effect

variable {ν : Type} {p : Params} {ps : List Piece} {s t : CoreState ν}

@[simp] theorem lawful_error (r : Raise) : Lawful p ps s (.error r) ↔ r.Proper := Iff.rfl

theorem lawful_checkLimit {c : Limit} {b : Bool} (hsound : b = true → s.Sound p → t.Sound p) (hw : s.Writes ps t) :
    Lawful p ps s (checkLimit c b t) := by
  cases b with
  | true => exact ⟨hsound rfl, hw⟩
  | false => exact limitFault_proper c t.cmdCnt

theorem Lawful.mono {qs : List Piece} {e : Effect ν} (h : Lawful p ps s e) (hsub : ps ⊆ qs) : Lawful p qs s e := by
  cases e with
  | ok t => exact ⟨h.1, h.2.mono hsub⟩
  | error r => exact h

theorem Lawful.andThen {e : Effect ν} {rule : CoreState ν → Effect ν} (he : Lawful p ps s e)
    (hr : ∀ u, Lawful p ps u (rule u)) : Lawful p ps s (andThen e rule) := by
  cases e with
  | error r => exact he
  | ok u =>
    rw [andThen_ok]
    have hu := hr u
    cases hru : rule u with
    | error r => rwa [hru] at hu
    | ok t =>
      rw [hru] at hu
      exact ⟨fun h => hu.1 (he.1 h), he.2.trans hu.2⟩

end Effect

section

variable {ν : Type} (s : CoreState ν) (p : Params) (n : NumSystem ν) (l : Layer)

theorem ruleCfgq_lawful (q : Nat) : Effect.Lawful p [.quality] s (ruleCfgq q s) := by
  unfold ruleCfgq
  split
  · next hq => exact ⟨fun h => { h with quality_le := hq.2 }, .quality (by simp) q⟩
  · simp

theorem ruleCfgg_lawful (g : Bool) : Effect.Lawful p [.grey] s (ruleCfgg g s) :=
  ⟨fun h => { h with }, .grey (by simp) g⟩

theorem ruleLdx_lawful : Effect.Lawful p [.xin, .xb] s (ruleLdx s) := by
  unfold ruleLdx
  split
  · simp
  · next b rest _ =>
    exact ⟨fun h => { h.writeXb b with }, (CoreState.Writes.writeXb (by simp) b).trans (.xin (by simp) rest)⟩

theorem ruleStx_lawful : Effect.Lawful p [.xout] s (ruleStx s) := by
  unfold ruleStx
  split
  · exact ⟨fun h => { h with }, .xout (by simp) _⟩
  · simp

theorem ruleFdct_lawful : Effect.Lawful p [.xb] s (ruleFdct n s) := by
  unfold ruleFdct
  split
  · exact ⟨fun h => h.writeXb _, .writeXb (by simp) _⟩
  · simp

theorem ruleIdct_lawful : Effect.Lawful p [.xb] s (ruleIdct n s) := by
  unfold ruleIdct
  split
  · exact ⟨fun h => h.writeXb _, .writeXb (by simp) _⟩
  · simp

theorem ruleQnt_lawful : Effect.Lawful p [.qb] s (ruleQnt p n l s) := by
  unfold ruleQnt
  split_ifs
  · simp
  · simp
  · exact Effect.lawful_checkLimit (fun hfit h => h.writeQb hfit) (.writeQb (by simp) _)
  · simp

theorem ruleDqt_lawful : Effect.Lawful p [.xb] s (ruleDqt p n l s) := by
  unfold ruleDqt
  split_ifs
  · simp
  · simp
  · exact ⟨fun h => h.writeXb _, .writeXb (by simp) _⟩
  · simp

theorem zigzag_fits {b : Block Int} (h : p.fitsAll b.toList = true) : p.fitsAll (zigzag b).toList = true := by
  rw [Params.fitsAll_toList_iff] at *
  exact fun k => by simpa [zigzag] using h (zzOrder k)

theorem inverseZigzag_fits {z : Vector Int 64} (h : p.fitsAll z.toList = true) :
    p.fitsAll (inverseZigzag z).toList = true := by
  rw [Params.fitsAll_toList_iff] at *
  exact fun k => by simpa [inverseZigzag] using h (zzRank k)

theorem ruleZz_lawful : Effect.Lawful p [.zq0, .zqAc] s (ruleZz s) := by
  unfold ruleZz
  split
  · exact ⟨fun h => h.writeZq (zigzag_fits p h.qbFits), .writeZq (by simp) (by simp) _⟩
  · simp

theorem ruleIzz_lawful : Effect.Lawful p [.qb] s (ruleIzz s) := by
  unfold ruleIzz
  split
  · exact ⟨fun h => h.writeQb (inverseZigzag_fits p h.zqFits), .writeQb (by simp) _⟩
  · simp

theorem ruleDce_lawful : Effect.Lawful p [.diff, .pred l] s (ruleDce p l s) := by
  unfold ruleDce
  split_ifs
  · simp
  · exact Effect.lawful_checkLimit
      (fun hfit h => (h.writeDiff hfit).setPred l ((p.fitsAll_toList_iff _).mp h.zqFits 0))
      ((CoreState.Writes.writeDiff (by simp) _).trans (.setPred (by simp) _))
  · simp

theorem ruleDcd_lawful : Effect.Lawful p [.zq0, .pred l] s (ruleDcd p l s) := by
  unfold ruleDcd
  split_ifs
  · simp
  · exact Effect.lawful_checkLimit (fun hfit h => (h.writeZq0 hfit).setPred l hfit)
      ((CoreState.Writes.writeZq0 (by simp) _).trans (.setPred (by simp) _))
  · simp

/-- `RLE` codes the 63 AC coefficients, which fit, as a block of pairs. -/
theorem ruleRle_lawful : Effect.Lawful p [.rl] s (ruleRle s) := by
  unfold ruleRle
  split
  · refine ⟨fun h => ?_, .writeRl (by simp) _⟩
    obtain ⟨ps, hps, hin, hcnt⟩ := rleFrom_block 0 (acOf s.zq)
    rw [length_acOf] at hcnt
    rw [hps]
    refine h.writeRl (rlForm_block (fun q hq => (hin q hq).1) hcnt) ((p.fitsAll_iff _).mpr fun v hv => ?_)
    have hzero := p.fits_zero
    have hzq := (p.fitsAll_iff _).mp h.zqFits
    rw [List.map_append] at hv
    rcases List.mem_append.mp hv with hv | hv
    · obtain ⟨q, hq, rfl⟩ := List.mem_map.mp hv
      rcases (hin q hq).2 with h0 | hmem
      · rwa [h0]
      · exact hzq _ (mem_acOf hmem)
    · rwa [List.mem_singleton.mp hv]
  · simp

theorem ruleRld_lawful : Effect.Lawful p [.zqAc] s (ruleRld s) := by
  unfold ruleRld
  split
  · split
    · simp
    · next out hout =>
      split
      · refine ⟨fun h => h.writeZqAc fun v hv => ?_, .writeZqAc (by simp) _⟩
        rcases mem_expand hout hv with rfl | hmem
        · exact p.fits_zero
        · exact (p.fitsAll_iff _).mp h.rlFits v hmem
      · simp
  · simp

theorem appendBits_lawful (k : Fin 4) (b : Bits) : Effect.Lawful p [.seg k] s (appendBits p k b s) :=
  Effect.lawful_checkLimit (fun hcap h => h.append hcap) (.append (by simp) b)

/-- `HEDC` appends a symbol or raises (45_huffman R209). -/
theorem ruleHedc_cases : (∃ b, ruleHedc p l s = appendBits p (segIx .dc l) b s) ∨
    ∃ r, r.Proper ∧ ruleHedc p l s = .error r := by
  unfold ruleHedc
  split_ifs
  · exact .inr ⟨_, seqFault_proper _, rfl⟩
  · split
    · exact .inl ⟨_, rfl⟩
    · exact .inr ⟨_, by simp, rfl⟩
  · exact .inr ⟨_, by simp, rfl⟩
  · exact .inr ⟨_, seqFault_proper _, rfl⟩

/-- `HEAC` appends the symbols of a block or raises (45_huffman R210). -/
theorem ruleHeac_cases : (∃ b, ruleHeac p l s = appendBits p (segIx .ac l) b s) ∨
    ∃ r, r.Proper ∧ ruleHeac p l s = .error r := by
  unfold ruleHeac
  split_ifs
  · exact .inr ⟨_, seqFault_proper _, rfl⟩
  · split
    · exact .inl ⟨_, rfl⟩
    · exact .inr ⟨_, by simp, rfl⟩
  · exact .inr ⟨_, seqFault_proper _, rfl⟩

theorem ruleHedc_lawful : Effect.Lawful p [.seg (segIx .dc l)] s (ruleHedc p l s) := by
  obtain ⟨b, h⟩ | ⟨r, hr, h⟩ := ruleHedc_cases s p l
  · rw [h]; exact appendBits_lawful s p _ b
  · rw [h]; exact hr

theorem ruleHeac_lawful : Effect.Lawful p [.seg (segIx .ac l)] s (ruleHeac p l s) := by
  obtain ⟨b, h⟩ | ⟨r, hr, h⟩ := ruleHeac_cases s p l
  · rw [h]; exact appendBits_lawful s p _ b
  · rw [h]; exact hr

/-- A position within the rest of a segment is one within the segment, since its cursor is. -/
theorem CoreState.Sound.le_len {ν : Type} {p : Params} {s : CoreState ν} (h : s.Sound p) {k : Fin 4} {q : Nat}
    (hq : q ≤ s.mem.cur[k] + (s.mem.rest k).length) : q ≤ s.mem.len k := by
  have hcur := (s.mem.wf_iff.mp h.memWf) k
  rw [Memory.rest, List.length_drop] at hq
  rw [Memory.len]
  omega

/-- A cursor moves past a symbol that is all there. -/
theorem takeDc_lawful (y : Symbol) {m : Nat} (hm : m ≤ (s.mem.rest (segIx .dc l)).length) :
    Effect.Lawful p [.diff, .cur (segIx .dc l)] s (takeDc p l y m s) :=
  Effect.lawful_checkLimit
    (fun hfit h => (h.setCur (h.le_len (Nat.add_le_add_left hm _))).writeDiff hfit)
    ((CoreState.Writes.setCur (by simp) _).trans (.writeDiff (by simp) _))

/-- What the loop answers is a block, and a position within the segment. -/
theorem commitAc_lawful {r : Except Raise (List Pair × Nat)} (herr : ∀ e, r = .error e → e.Proper)
    (hok : s.Sound p → ∀ out q, r = .ok (out, q) →
      RlForm out ∧ q ≤ s.mem.cur[segIx .ac l] + (s.mem.rest (segIx .ac l)).length) :
    Effect.Lawful p [.rl, .cur (segIx .ac l)] s (commitAc p l r s) := by
  cases r with
  | error e => exact herr e rfl
  | ok r =>
    obtain ⟨out, q⟩ := r
    refine Effect.lawful_checkLimit (fun hfit h => ?_)
      ((CoreState.Writes.setCur (by simp) _).trans (.writeRl (by simp) _))
    obtain ⟨hform, hq⟩ := hok h out q rfl
    exact (h.setCur (h.le_len hq)).writeRl hform hfit

theorem ruleHddc_lawful : Effect.Lawful p [.diff, .cur (segIx .dc l)] s (ruleHddc p l s) := by
  simp only [ruleHddc]
  split
  · simp
  · split
    · simp
    · next y m hy =>
      obtain ⟨-, -, hm, -⟩ := readSymbol_ok hy
      exact takeDc_lawful s p l y hm

theorem CoreState.Sound.hTables {ν : Type} {p : Params} {s : CoreState ν} (h : s.Sound p) : p.hTables.valid = true :=
  (Bool.and_eq_true_iff.mp h.valid).2

theorem ruleHdac_lawful : Effect.Lawful p [.rl, .cur (segIx .ac l)] s (ruleHdac p l s) := by
  simp only [ruleHdac]
  split
  · simp
  · exact commitAc_lawful s p l (fun e he => hdacLoop_error_proper _ _ _ _ _ _ _ he) fun h out q hr =>
      hdacLoop_readsBlock h.hTables l 64 _ _ _ _ out q hr (List.forall_mem_nil _) rfl (by omega)

theorem rulePack_lawful : Effect.Lawful p [.bout, .remBits] s (rulePack p s) :=
  ⟨fun h => { h with
      remBits_le := padding_le _
      bout := List.forall_mem_append.mpr ⟨h.bout, List.forall_mem_singleton.mpr (packRecord_sound p s)⟩ },
    .trans (t := { s with remBits := padding s.activeSegs.flatten.length }) (.remBits (by simp) _) (.bout (by simp) _)⟩

theorem Piece.mem_memory (k : Fin 4) : Piece.seg k ∈ Piece.memory ∧ Piece.cur k ∈ Piece.memory := by
  revert k; decide

theorem ruleSlice_lawful : Effect.Lawful p ([.bin, .remBits] ++ Piece.memory) s (ruleSlice p s) := by
  unfold ruleSlice
  split
  · simp
  · split
    · simp
    · next r rest _ _ hheader =>
      obtain ⟨-, -, hrem0, hrem7, -⟩ := headerFault_eq_none hheader
      refine Effect.lawful_checkLimit (fun hcap h => ?_) ?_
      · rw [List.all_eq_true] at hcap
        exact { h with
          memWf := Memory.wf_load _, remBits_le := by show r.remainingBits.toNat ≤ 7; omega
          segHolds := fun k => hcap _ (Vector.mem_toList_iff.mpr (Vector.getElem_mem k.isLt)) }
      · have hmem := CoreState.Writes.mem (s := s) (ps := [.bin, .remBits] ++ Piece.memory)
          (fun k => List.mem_append_right _ (Piece.mem_memory k).1)
          (fun k => List.mem_append_right _ (Piece.mem_memory k).2)
          (Memory.load (sliceSegs p.bitOrder r))
        exact (hmem.trans (.remBits (by simp) r.remainingBits.toNat)).trans (.bin (by simp) rest)

theorem ruleEncblk_lawful :
    Effect.Lawful p [.xin, .xb, .qb, .zq0, .zqAc, .diff, .rl, .pred l, .seg (segIx .dc l), .seg (segIx .ac l)] s
      (ruleEncblk p n l s) := by
  unfold ruleEncblk encodeChain
  split_ifs
  · simp
  · simp
  · simp
  · exact (ruleLdx_lawful s p).mono (by simp)
      |>.andThen (fun u => (ruleFdct_lawful u p n).mono (by simp))
      |>.andThen (fun u => (ruleQnt_lawful u p n l).mono (by simp))
      |>.andThen (fun u => (ruleZz_lawful u p).mono (by simp))
      |>.andThen (fun u => (ruleDce_lawful u p l).mono (by simp))
      |>.andThen (fun u => (ruleHedc_lawful u p l).mono (by simp))
      |>.andThen (fun u => (ruleRle_lawful u p).mono (by simp))
      |>.andThen (fun u => (ruleHeac_lawful u p l).mono (by simp))

theorem ruleDecblk_lawful :
    Effect.Lawful p [.diff, .pred l, .rl, .zq0, .zqAc, .qb, .xb, .xout, .cur (segIx .dc l), .cur (segIx .ac l)] s
      (ruleDecblk p n l s) := by
  unfold ruleDecblk decodeChain
  split_ifs
  · simp
  · simp
  · exact (ruleHddc_lawful s p l).mono (by simp)
      |>.andThen (fun u => (ruleDcd_lawful u p l).mono (by simp))
      |>.andThen (fun u => (ruleHdac_lawful u p l).mono (by simp))
      |>.andThen (fun u => (ruleRld_lawful u p).mono (by simp))
      |>.andThen (fun u => (ruleIzz_lawful u p).mono (by simp))
      |>.andThen (fun u => (ruleDqt_lawful u p n l).mono (by simp))
      |>.andThen (fun u => (ruleIdct_lawful u p n).mono (by simp))
      |>.andThen (fun u => (ruleStx_lawful u p).mono (by simp))

theorem ruleDcSymbol_lawful (size lit : Nat) :
    Effect.Lawful p [.diff, .cur (segIx .dc l)] s (ruleDcSymbol p l size lit s) := by
  simp only [ruleDcSymbol]
  split_ifs with _ hbits
  · simp
  · simp
  · exact takeDc_lawful s p l _ (not_lt.mp hbits)

theorem ruleAcSymbol_lawful {run : Nat} (hrun : run ≤ 15) (size lit : Nat) :
    Effect.Lawful p [.rl, .cur (segIx .ac l)] s (ruleAcSymbol p l run size lit s) := by
  simp only [ruleAcSymbol]
  split_ifs with _ hbits
  · simp
  · simp
  · refine commitAc_lawful s p l
      (fun e he => takeAc_error_proper (fun _ _ _ _ => hdacLoop_error_proper _ _ _ _ _ _ _) he) fun h out q hr => ?_
    exact (hdacLoop_readsBlock h.hTables l 63).takeAc hrun (not_lt.mp hbits) hr (List.forall_mem_nil _) rfl (by omega)

/-- A command's rule keeps the invariant, writes its row of rule R47, and raises proper faults. -/
theorem commandRule?_lawful {i : Instr} {rule : CoreState ν → Effect ν} (h : commandRule? p n i = some rule) :
    Effect.Lawful p (writesOf i) s (rule s) := by
  unfold commandRule? at h
  split at h <;> cases h
  · exact ⟨id, .refl s⟩
  · exact ruleCfgq_lawful s p _
  · exact ruleCfgg_lawful s p _
  · exact ruleLdx_lawful s p
  · exact ruleStx_lawful s p
  · exact ruleFdct_lawful s p n
  · exact ruleIdct_lawful s p n
  · exact ruleQnt_lawful s p n _
  · exact ruleDqt_lawful s p n _
  · exact ruleZz_lawful s p
  · exact ruleIzz_lawful s p
  · exact ruleDce_lawful s p _
  · exact ruleDcd_lawful s p _
  · exact ruleRle_lawful s p
  · exact ruleRld_lawful s p
  · exact ruleHedc_lawful s p _
  · exact ruleHeac_lawful s p _
  · exact ruleHddc_lawful s p _
  · exact ruleHdac_lawful s p _
  · exact rulePack_lawful s p
  · exact ruleSlice_lawful s p
  · exact ruleEncblk_lawful s p n _
  · exact ruleDecblk_lawful s p n _

theorem writesOf_dc {i : Instr} {y : Symbol} (h : i.symbol? = some y) (hy : y.type = .dc) :
    writesOf i = [.diff, .cur (segIx .dc y.layer)] := by
  unfold writesOf; rw [h]; simp only [hy]

theorem writesOf_ac {i : Instr} {y : Symbol} (h : i.symbol? = some y) (hy : y.type = .ac) :
    writesOf i = [.rl, .cur (segIx .ac y.layer)] := by
  unfold writesOf; rw [h]; simp only [hy]

/-- So does a symbol's rule (log 10). -/
theorem symbolRule_lawful {i : Instr} {y : Symbol} (h : i.symbol? = some y) :
    Effect.Lawful p (writesOf i) s (symbolRule p y s) := by
  rw [symbolRule]
  cases hy : y.type with
  | dc => rw [writesOf_dc h hy]; exact ruleDcSymbol_lawful s p y.layer y.size y.lit
  | ac => rw [writesOf_ac h hy]; exact ruleAcSymbol_lawful s p y.layer (Instr.symbol?_run_le h) y.size y.lit

end

end Sys2Proof.Machine

namespace Sys2Proof.Machine

/-! ### The command step and the whole machine keep the invariant -/

section

variable {ν : Type} {p : Params} {s t : CoreState ν}

theorem CoreState.RecordSound.of_bookkeeping (h : s.RecordSound) (hb : t.bookkeeping = s.bookkeeping) :
    t.RecordSound := by
  simp only [CoreState.bookkeeping, Prod.mk.injEq] at hb
  obtain ⟨-, hfaulted, herr, hseg, hinfo⟩ := hb
  rwa [CoreState.RecordSound, hfaulted, herr, hseg, hinfo]

theorem takeFault_recordSound {r : Raise} (hr : r.Proper) : (takeFault r s).RecordSound :=
  ⟨⟨fun _ => hr.1, fun _ => rfl⟩, fun h => absurd h hr.1, hr.2⟩

theorem clearSession_recordSound : (clearSession s).RecordSound :=
  ⟨⟨nofun, fun h => absurd rfl h⟩, fun _ => rfl, fun _ _ => rfl⟩

/-- What holds of the counted state, of what the rule leaves, and of its fault, holds after the command step. -/
theorem commandStep_induction {R : CoreState ν → Prop} {rule : CoreState ν → Effect ν} (hcount : R (countCommand s))
    (hok : ∀ t, rule (countCommand s) = .ok t → R t)
    (hfault : ∀ r, rule (countCommand s) = .error r → R (takeFault r (countCommand s))) : R (commandStep rule s) := by
  obtain ⟨-, h⟩ | ⟨-, h⟩ | ⟨-, r, hr, h⟩ := commandStep_cases rule s
  · rwa [h]
  · exact hok _ h
  · rw [h]; exact hfault r hr

theorem Effect.Lawful.ok {ps : List Piece} {e : Effect ν} (h : Lawful p ps s e) (he : e = .ok t) :
    (s.Sound p → t.Sound p) ∧ s.Writes ps t := by
  subst he; exact h

theorem Effect.Lawful.error {ps : List Piece} {e : Effect ν} (h : Lawful p ps s e) {r : Raise} (he : e = .error r) :
    r.Proper := by
  subst he; exact h

theorem commandStep_sound {ps : List Piece} {rule : CoreState ν → Effect ν} (hl : ∀ u, Effect.Lawful p ps u (rule u))
    (hk : ∀ u, Effect.KeepsBookkeeping u (rule u)) (h : s.Sound p) (hrec : s.RecordSound) :
    (commandStep rule s).Sound p ∧ (commandStep rule s).RecordSound :=
  commandStep_induction (R := fun t => t.Sound p ∧ t.RecordSound) ⟨h.countCommand, hrec⟩
    (fun t ht => ⟨((hl _).ok ht).1 h.countCommand, .of_bookkeeping (s := countCommand s) hrec (hk _ t ht)⟩)
    (fun r hr => ⟨h.countCommand.takeFault r, takeFault_recordSound ((hl _).error hr)⟩)

theorem commandStep_writes {ps : List Piece} {rule : CoreState ν → Effect ν} (hl : ∀ u, Effect.Lawful p ps u (rule u)) :
    s.Writes ps (commandStep rule s) :=
  commandStep_induction (R := s.Writes ps) .countCommand
    (fun _ ht => CoreState.Writes.countCommand.trans ((hl _).ok ht).2)
    (fun r _ => CoreState.Writes.countCommand.trans (.takeFault r))

theorem commandStep_keeps_faulted (rule : CoreState ν → Effect ν) (h : s.faulted = true) :
    (commandStep rule s).faulted = true := by
  rw [commandStep_faulted rule s h]; exact h

/-- Every instruction but `CLR` is the command step around a lawful rule. -/
theorem lawful_of_ne_clr (p : Params) (n : NumSystem ν) {i : Instr} (h : i ≠ .clr) :
    ∃ rule, coreExec p n i = commandStep rule ∧
      ∀ u, Effect.Lawful p (writesOf i) u (rule u) ∧ Effect.KeepsBookkeeping u (rule u) := by
  obtain ⟨rule, hrule, hc | ⟨y, hy, rfl⟩⟩ := rule_of_ne_clr p n i h
  · exact ⟨rule, hrule, fun u => ⟨commandRule?_lawful u p n hc, commandRule?_keepsBookkeeping u p n hc⟩⟩
  · exact ⟨_, hrule, fun u => ⟨symbolRule_lawful u p hy, symbolRule_keepsBookkeeping u p y⟩⟩

theorem coreExec_sound (n : NumSystem ν) (i : Instr) (h : s.Sound p) (hrec : s.RecordSound) :
    (coreExec p n i s).Sound p ∧ (coreExec p n i s).RecordSound := by
  by_cases hi : i = .clr
  · subst hi
    exact ⟨h.countCommand.clearSession, clearSession_recordSound⟩
  · obtain ⟨rule, hrule, hlaw⟩ := lawful_of_ne_clr p n hi
    rw [hrule]
    exact commandStep_sound (fun u => (hlaw u).1) (fun u => (hlaw u).2) h hrec

end

/-- Settles O13: every rule keeps the registers and the memory sound and the fault record as it is; the command step
writes the record of a proper fault; `CLR` starts afresh. -/
theorem execKeepsInvariant : Obligations.ExecKeepsInvariant := by
  intro i s t hs ht
  rw [exec_eq_coreExec] at ht
  cases ht
  rw [State.inv_iff] at *
  exact coreExec_sound exactSystem i hs.1 hs.2

/-- Settles O12: a step is idle, an instruction on the state with the word taken, or a reserved word's fault. -/
theorem stepKeepsInvariant : Obligations.StepKeepsInvariant := by
  intro s t hs ht
  obtain ⟨-, h⟩ | ⟨w, rest, -, ⟨i, -, h⟩ | ⟨-, h⟩⟩ := step_cases s
  · cases h.symm.trans ht
    exact hs
  · exact execKeepsInvariant i { s with cmdIn := rest } t hs (h.symm.trans ht)
  · cases h.symm.trans ht
    rw [State.inv_iff] at *
    exact commandStep_sound (ps := []) (rule := ruleReserved w) (fun _ => by simp [ruleReserved])
      (fun _ => by simp [ruleReserved]) hs.1 hs.2

/-! ### Frames (10_state R28, R29, R47) -/

/-- Settles O17: a rule only raises valid flags, and while `FAULTED` a command only counts. -/
theorem onlyClrClearsFlags : Obligations.OnlyClrClearsFlags := by
  intro i s t hi ht
  rw [exec_eq_coreExec] at ht
  cases ht
  obtain ⟨rule, hrule, hlaw⟩ := lawful_of_ne_clr s.params exactSystem hi
  rw [hrule]
  have hw := commandStep_writes (s := s.toCoreState) fun u => (hlaw u).1
  exact ⟨hw.flags .xb, hw.flags .qb, hw.flags .zq0, hw.flags .zqAc, hw.flags .diff, hw.flags .rl,
    commandStep_keeps_faulted rule⟩

theorem writesOf_clr : writesOf .clr =
    [.xb, .qb, .zq0, .zqAc, .diff, .rl, .pred .lum, .pred .chr, .quality, .grey, .remBits] ++ Piece.memory := rfl

/-- `CLR` writes everything but the queues (48_dispatcher R263). -/
theorem clearSession_sameIn {ν : Type} (s : CoreState ν) {x : Piece} (hx : x ∉ writesOf .clr) :
    x.SameIn s (clearSession (countCommand s)) := by
  rw [writesOf_clr] at hx
  cases x with
  | seg k => exact absurd (List.mem_append_right _ (Piece.mem_memory k).1) hx
  | cur k => exact absurd (List.mem_append_right _ (Piece.mem_memory k).2) hx
  | pred l => cases l <;> simp at hx
  | xin | xout | bin | bout => rfl
  | _ => simp at hx

/-- Settles O18: the command step around a rule writes what the rule writes, which is its row of the matrix. -/
theorem writesOnlyItsRow : Obligations.WritesOnlyItsRow := by
  intro i s t x ht hx
  rw [exec_eq_coreExec] at ht
  cases ht
  rw [Piece.same_iff]
  by_cases hi : i = .clr
  · subst hi
    exact clearSession_sameIn s.toCoreState hx
  · obtain ⟨rule, hrule, hlaw⟩ := lawful_of_ne_clr s.params exactSystem hi
    rw [hrule]
    exact (commandStep_writes fun u => (hlaw u).1).same x hx

/-! ### Segments only grow (20_memory R70) -/

/-- Where the effect is a completion, every segment of `s` begins what it has become. -/
def Effect.Extends {ν : Type} (s : CoreState ν) (e : Effect ν) : Prop :=
  ∀ t, e = .ok t → ∀ k : Fin 4, s.mem.seg[k] <+: t.mem.seg[k]

section

variable {ν : Type} {p : Params} {s : CoreState ν}

theorem Effect.Lawful.toExtends {ps : List Piece} {e : Effect ν} (h : Lawful p ps s e) (hps : ∀ k, .seg k ∉ ps) :
    Extends s e := by
  intro t ht k
  have hsame : t.mem.seg[k] = s.mem.seg[k] := (h.ok ht).2.same (.seg k) (hps k)
  rw [hsame]

theorem Effect.Extends.andThen {e : Effect ν} {rule : CoreState ν → Effect ν} (he : Extends s e)
    (hr : ∀ u, Extends u (rule u)) : Extends s (andThen e rule) := by
  intro t ht k
  obtain ⟨u, hu, hut⟩ := (andThen_eq_ok e rule t).mp ht
  exact (he u hu k).trans (hr u t hut k)

theorem appendBits_extends (k : Fin 4) (b : Bits) : Effect.Extends s (appendBits p k b s) := by
  intro t ht j
  obtain ⟨-, rfl⟩ := (checkLimit_eq_ok _ _ _ _).mp ht
  show _ <+: (s.mem.append k b).seg[j]
  rw [Memory.append_seg]
  split
  · next e => subst e; exact List.prefix_append _ _
  · exact List.prefix_rfl

theorem ruleHedc_extends (l : Layer) : Effect.Extends s (ruleHedc p l s) := by
  obtain ⟨b, h⟩ | ⟨r, -, h⟩ := ruleHedc_cases s p l
  · rw [h]; exact appendBits_extends _ b
  · rw [h]; exact fun t ht => by cases ht

theorem ruleHeac_extends (l : Layer) : Effect.Extends s (ruleHeac p l s) := by
  obtain ⟨b, h⟩ | ⟨r, -, h⟩ := ruleHeac_cases s p l
  · rw [h]; exact appendBits_extends _ b
  · rw [h]; exact fun t ht => by cases ht

theorem ruleEncblk_extends (n : NumSystem ν) (l : Layer) : Effect.Extends s (ruleEncblk p n l s) := by
  unfold ruleEncblk encodeChain
  split_ifs
  · exact fun t ht => by cases ht
  · exact fun t ht => by cases ht
  · exact fun t ht => by cases ht
  · exact (ruleLdx_lawful s p).toExtends (by simp)
      |>.andThen (fun u => (ruleFdct_lawful u p n).toExtends (by simp))
      |>.andThen (fun u => (ruleQnt_lawful u p n l).toExtends (by simp))
      |>.andThen (fun u => (ruleZz_lawful u p).toExtends (by simp))
      |>.andThen (fun u => (ruleDce_lawful u p l).toExtends (by simp))
      |>.andThen (fun _ => ruleHedc_extends l)
      |>.andThen (fun u => (ruleRle_lawful u p).toExtends (by simp))
      |>.andThen (fun _ => ruleHeac_extends l)

theorem commandStep_extends {rule : CoreState ν → Effect ν} (h : ∀ u, Effect.Extends u (rule u)) (k : Fin 4) :
    s.mem.seg[k] <+: (commandStep rule s).mem.seg[k] :=
  commandStep_induction (R := fun t => s.mem.seg[k] <+: t.mem.seg[k]) List.prefix_rfl
    (fun t ht => h (countCommand s) t ht k) (fun _ _ => List.prefix_rfl)

/-- The rows of rule R47 that name a segment. -/
theorem segment_writers {i : Instr} {k : Fin 4} (h : .seg k ∈ writesOf i) :
    i = .clr ∨ i = .slice ∨ ∃ l, i = .hedc l ∨ i = .heac l ∨ i = .encblk l := by
  cases hy : i.symbol? with
  | some y =>
    cases hty : y.type with
    | dc => simp [writesOf_dc hy hty] at h
    | ac => simp [writesOf_ac hy hty] at h
  | none =>
    unfold writesOf at h
    rw [hy] at h
    simp only at h
    split at h <;> simp_all

theorem coreExec_extends (n : NumSystem ν) {i : Instr} (hclr : i ≠ .clr) (hslice : i ≠ .slice) (k : Fin 4) :
    s.mem.seg[k] <+: (coreExec p n i s).mem.seg[k] := by
  by_cases hw : .seg k ∈ writesOf i
  · obtain hi | hi | ⟨l, rfl | rfl | rfl⟩ := segment_writers hw
    · exact absurd hi hclr
    · exact absurd hi hslice
    · exact commandStep_extends (fun _ => ruleHedc_extends l) k
    · exact commandStep_extends (fun _ => ruleHeac_extends l) k
    · exact commandStep_extends (fun _ => ruleEncblk_extends n l) k
  · obtain ⟨rule, hrule, hlaw⟩ := lawful_of_ne_clr p n hclr
    rw [hrule]
    have hsame : (commandStep rule s).mem.seg[k] = s.mem.seg[k] :=
      (commandStep_writes fun u => (hlaw u).1).same (.seg k) hw
    rw [hsame]

end

/-- Settles O19: the old segment begins the new one. -/
theorem segmentBitsStay : Obligations.SegmentBitsStay := by
  intro i s t k q hclr hslice ht hq
  rw [exec_eq_coreExec] at ht
  cases ht
  obtain ⟨b, hb⟩ := coreExec_extends (p := s.params) (s := s.toCoreState) exactSystem hclr hslice k
  rw [Memory.bit?, ← hb, List.getElem?_append_left hq, Memory.bit?]

/-! ### The state after reset (10_state R46) -/

/-- Settles O10: the reset state is written out field by field. -/
theorem resetValues : Obligations.ResetValues := by
  refine ⟨rfl, rfl, rfl, rfl, rfl, rfl, rfl, rfl, rfl, rfl, rfl, fun k => ?_, rfl, fun l => ?_, rfl, rfl, rfl, rfl, rfl,
    rfl⟩
  · exact ⟨Memory.empty_len k, Memory.empty_cur k k.isLt, Memory.empty_seg k k.isLt⟩
  · cases l <;> rfl

/-- With the default parameters the limits say nothing; the tables are checked by evaluation. -/
theorem State.reset_sound : State.reset.toCoreState.Sound Params.default where
  valid := by decide +kernel
  memWf := Memory.wf_empty
  quality_le := Nat.zero_le _
  remBits_le := Nat.zero_le _
  rlForm := nofun
  bout := nofun
  qbFits := rfl
  zqFits := rfl
  diffFits := rfl
  rlFits := rfl
  lumFits := rfl
  chrFits := rfl
  segHolds _ := rfl

/-- Settles O11: the registers and the memory are sound, and there is no fault. -/
theorem resetMeetsInvariant : Obligations.ResetMeetsInvariant :=
  (State.inv_iff _).mpr ⟨State.reset_sound, ⟨nofun, fun h => absurd rfl h⟩, fun _ => rfl, fun _ _ => rfl⟩

end Sys2Proof.Machine

namespace Sys2Proof.Machine

/-! ### Layer `CHR` while `GREY = 1` (10_state R32) -/

/-- A rule that raises `E_SEQ` with a word leaves that fault's state (60_exceptions R304, R313). -/
theorem runCommand_seqFault {rule : CoreState NUM → Effect NUM} {s : State} {w : Nat} (h : s.faulted = false)
    (hr : rule (countCommand s.toCoreState) = .error (seqFault w)) :
    runCommand rule s = .next (s.faultedWith .seq w 0) :=
  runCommand_error rule s _ h hr

/-- A symbol of a blocked layer raises `E_SEQ` with the word of its command (log 10). -/
theorem symbolRule_blocked {ν : Type} (p : Params) {y : Symbol} {s : CoreState ν} (h : s.layerBlocked y.layer = true) :
    symbolRule p y s = .error (seqFault ((if y.type = .dc then 0x2200 else 0x2300) + y.layer.code)) := by
  cases hy : y.type with
  | dc => simp only [symbolRule, hy]; exact if_pos h
  | ac => simp only [symbolRule, hy]; exact if_pos h

/-- Settles O21: the first test of every rule with a layer operand is the layer's. -/
theorem greyBlocksChrominance : Obligations.GreyBlocksChrominance := by
  intro s hf hg
  have hblocked : (countCommand s.toCoreState).layerBlocked .chr = true := by simpa using hg
  constructor
  · simp only [List.forall_mem_cons]
    refine ⟨?_, ?_, ?_, ?_, ?_, ?_, ?_, ?_, ?_, ?_, List.forall_mem_nil _⟩
    · exact runCommand_seqFault (rule := ruleQnt s.params exactSystem .chr) hf (if_pos hblocked)
    · exact runCommand_seqFault (rule := ruleDqt s.params exactSystem .chr) hf (if_pos hblocked)
    · exact runCommand_seqFault (rule := ruleDce s.params .chr) hf (if_pos hblocked)
    · exact runCommand_seqFault (rule := ruleDcd s.params .chr) hf (if_pos hblocked)
    · exact runCommand_seqFault (rule := ruleHedc s.params .chr) hf (if_pos hblocked)
    · exact runCommand_seqFault (rule := ruleHeac s.params .chr) hf (if_pos hblocked)
    · exact runCommand_seqFault (rule := ruleHddc s.params .chr) hf (if_pos hblocked)
    · exact runCommand_seqFault (rule := ruleHdac s.params .chr) hf (if_pos hblocked)
    · exact runCommand_seqFault (rule := ruleEncblk s.params exactSystem .chr) hf (if_pos hblocked)
    · exact runCommand_seqFault (rule := ruleDecblk s.params exactSystem .chr) hf (if_pos hblocked)
  · intro i y hy hlayer
    rw [exec_symbol hy, runCommand_seqFault hf (symbolRule_blocked s.params (by rwa [hlayer])), hlayer]
    cases y.type <;> rfl

/-! ### `STATUS` and the CSRs (10_state R30, R33) -/

theorem ErrCode.code_lt (e : ErrCode) : e.code < 10 := by
  cases e <;> decide

/-- The number `STATUS` is the numeral of. -/
def CoreState.statusNat {ν : Type} (s : CoreState ν) : Nat :=
  s.err.code + 16 * s.faulted.toNat + 32 * s.errSeg.val + 256 * s.vx.toNat + 512 * s.vq.toNat
    + 1024 * s.vz0.toNat + 2048 * s.vza.toNat + 4096 * s.vd.toNat + 8192 * s.vr.toNat

/-- The digits of the number: the code, `FAULTED`, the segment, the valid flags, and zeros (10_state R33, R39). -/
theorem statusNat_digits {ν : Type} (s : CoreState ν) :
    s.statusNat < 2 ^ 16 ∧ s.statusNat / 2 ^ 0 % 2 ^ 4 = s.err.code ∧ s.statusNat / 2 ^ 4 % 2 = s.faulted.toNat ∧
    s.statusNat / 2 ^ 5 % 2 ^ 2 = s.errSeg.val ∧ s.statusNat / 2 ^ 7 % 2 = false.toNat ∧
    s.statusNat / 2 ^ 8 % 2 = s.vx.toNat ∧ s.statusNat / 2 ^ 9 % 2 = s.vq.toNat ∧
    s.statusNat / 2 ^ 10 % 2 = s.vz0.toNat ∧ s.statusNat / 2 ^ 11 % 2 = s.vza.toNat ∧
    s.statusNat / 2 ^ 12 % 2 = s.vd.toNat ∧ s.statusNat / 2 ^ 13 % 2 = s.vr.toNat ∧
    s.statusNat / 2 ^ 14 % 2 = false.toNat ∧ s.statusNat / 2 ^ 15 % 2 = false.toNat := by
  have herr := s.err.code_lt
  have hseg := s.errSeg.isLt
  have hbool := Bool.toNat_lt
  have hf := hbool s.faulted; have hvx := hbool s.vx; have hvq := hbool s.vq; have hvz0 := hbool s.vz0
  have hvza := hbool s.vza; have hvd := hbool s.vd; have hvr := hbool s.vr
  unfold CoreState.statusNat
  rw [Bool.toNat_false]
  omega

theorem statusWord_toNat {ν : Type} (s : CoreState ν) : s.statusWord.toNat = s.statusNat :=
  Nat.mod_eq_of_lt (statusNat_digits s).1

/-- Bits `i` to `i + n - 1` of `STATUS` hold the digits of the number. -/
theorem statusWord_field {ν : Type} (s : CoreState ν) {i n m : Nat} (h : s.statusNat / 2 ^ i % 2 ^ n = m) :
    s.statusWord.extractLsb' i n = BitVec.ofNat n m := by
  refine BitVec.eq_of_toNat_eq ?_
  rw [BitVec.extractLsb'_toNat, statusWord_toNat, Nat.shiftRight_eq_div_pow, BitVec.toNat_ofNat, ← h, Nat.mod_mod]

theorem statusWord_bit {ν : Type} (s : CoreState ν) {i : Nat} {b : Bool} (h : s.statusNat / 2 ^ i % 2 = b.toNat) :
    s.statusWord.getLsbD i = b := by
  rw [← BitVec.testBit_toNat, statusWord_toNat, Nat.testBit_eq_decide_div_mod_eq, h]
  cases b <;> rfl

/-- Settles O22: the fields of `STATUS` are the digits of its number; the CSRs are the rows of the table. -/
theorem statusFields : Obligations.StatusFields := by
  intro s
  obtain ⟨-, herr, hf, hseg, h7, hvx, hvq, hvz0, hvza, hvd, hvr, h14, h15⟩ := statusNat_digits s.toCoreState
  refine ⟨statusWord_field _ herr, statusWord_bit _ hf, statusWord_field _ hseg, statusWord_bit _ h7,
    statusWord_bit _ hvx, statusWord_bit _ hvq, statusWord_bit _ hvz0, statusWord_bit _ hvza, statusWord_bit _ hvd,
    statusWord_bit _ hvr, statusWord_bit _ h14, statusWord_bit _ h15, rfl, ?_, rfl, rfl, fun k => ?_, rfl, fun k => ?_,
    rfl, rfl, fun hd => ?_, fun _ => rfl, rfl, fun n hn => ?_⟩
  · cases hg : s.grey <;> simp [CoreState.csr, CoreState.ctrlWord, hg]
  · match k with
    | 0 | 1 | 2 | 3 => rfl
  · match k with
    | 0 | 1 | 2 | 3 => rfl
  · simp [CoreState.csr, hd]
  · obtain ⟨m, rfl⟩ : ∃ m, n = m + 17 := ⟨n - 17, by omega⟩
    rfl

end Sys2Proof.Machine

namespace Sys2Proof.Machine

/-! ### No rule reads a register that is not valid (10_state R28, R46) -/

/-- `State.AgreeOnValid` of the architectural states, field by field. -/
structure CoreState.Agree {ν : Type} (s t : CoreState ν) : Prop where
  xb : s.vx = true → t.xb = s.xb
  qb : s.vq = true → t.qb = s.qb
  zq0 : s.vz0 = true → t.zq[0] = s.zq[0]
  zqAc : s.vza = true → ∀ k : Fin 64, k ≠ 0 → t.zq[k] = s.zq[k]
  diff : s.vd = true → t.diff = s.diff
  rl : s.vr = true → t.rl = s.rl
  predLum : t.predLum = s.predLum
  predChr : t.predChr = s.predChr
  vx : t.vx = s.vx
  vq : t.vq = s.vq
  vz0 : t.vz0 = s.vz0
  vza : t.vza = s.vza
  vd : t.vd = s.vd
  vr : t.vr = s.vr
  faulted : t.faulted = s.faulted
  err : t.err = s.err
  errSeg : t.errSeg = s.errSeg
  errInfo : t.errInfo = s.errInfo
  quality : t.quality = s.quality
  grey : t.grey = s.grey
  remBits : t.remBits = s.remBits
  cmdCnt : t.cmdCnt = s.cmdCnt
  mem : t.mem = s.mem
  xin : t.xin = s.xin
  xout : t.xout = s.xout
  bin : t.bin = s.bin
  bout : t.bout = s.bout

/-- States that agree are the same but for the five contents. -/
theorem CoreState.Agree.eq_update {ν : Type} {s t : CoreState ν} (h : s.Agree t) :
    t = { s with xb := t.xb, qb := t.qb, zq := t.zq, diff := t.diff, rl := t.rl } := by
  obtain ⟨⟩ := t
  simp only [CoreState.mk.injEq, true_and]
  exact ⟨h.predLum, h.predChr, h.vx, h.vq, h.vz0, h.vza, h.vd, h.vr, h.faulted, h.err, h.errSeg, h.errInfo, h.quality,
    h.grey, h.remBits, h.cmdCnt, h.mem, h.xin, h.xout, h.bin, h.bout⟩

theorem State.agreeOnValid_iff (s t : State) :
    s.AgreeOnValid t ↔ s.toCoreState.Agree t.toCoreState ∧ t.params = s.params ∧ t.cmdIn = s.cmdIn := by
  constructor
  · rintro ⟨hrest, hxb, hqb, hz0, hza, hdiff, hrl⟩
    have field {α : Type} (f : State → α) := congrArg f hrest
    exact ⟨⟨hxb, hqb, hz0, hza, hdiff, hrl, field (·.predLum), field (·.predChr), field (·.vx), field (·.vq),
      field (·.vz0), field (·.vza), field (·.vd), field (·.vr), field (·.faulted), field (·.err), field (·.errSeg),
      field (·.errInfo), field (·.quality), field (·.grey), field (·.remBits), field (·.cmdCnt), field (·.mem),
      field (·.xin), field (·.xout), field (·.bin), field (·.bout)⟩, field (·.params), field (·.cmdIn)⟩
  · rintro ⟨h, hparams, hcmd⟩
    refine ⟨?_, h.xb, h.qb, h.zq0, h.zqAc, h.diff, h.rl⟩
    obtain ⟨c, params, cmdIn⟩ := t
    cases hparams
    cases hcmd
    exact congrArg (fun c => (⟨c, s.params, s.cmdIn⟩ : State)) h.eq_update

namespace CoreState.Agree

variable {ν : Type} {s t : CoreState ν} (h : s.Agree t)
include h

theorem nseg : t.nseg = s.nseg := by
  rw [CoreState.nseg, h.grey, CoreState.nseg]

theorem activeSegs : t.activeSegs = s.activeSegs := by
  rw [CoreState.activeSegs, h.mem, h.nseg, CoreState.activeSegs]

theorem layerBlocked (l : Layer) : t.layerBlocked l = s.layerBlocked l := by
  rw [CoreState.layerBlocked, h.grey, CoreState.layerBlocked]

theorem predOf (l : Layer) : t.predOf l = s.predOf l := by
  cases l with
  | lum => exact h.predLum
  | chr => exact h.predChr

/-- The AC coefficients are read only while they are valid. -/
theorem acOf (hv : s.vza = true) : acOf t.zq = acOf s.zq := by
  refine List.ext_getElem (by simp [Machine.acOf]) fun i hi _ => ?_
  rw [length_acOf] at hi
  have hk := h.zqAc hv ⟨i + 1, by omega⟩ (Fin.ne_of_val_ne (Nat.succ_ne_zero i))
  simpa [Machine.acOf] using hk

/-- `ZQ` is read as a whole only while both its parts are valid. -/
theorem zq (hv0 : s.vz0 = true) (hva : s.vza = true) : t.zq = s.zq := by
  refine Vector.ext fun i hi => ?_
  by_cases hz : i = 0
  · subst hz; exact h.zq0 hv0
  · exact h.zqAc hva ⟨i, hi⟩ (Fin.ne_of_val_ne hz)

/-! The same update keeps the agreement. -/

theorem writeXb (b : Block ν) : (writeXb b s).Agree (writeXb b t) :=
  { h with vx := rfl, xb := fun _ => rfl }

theorem writeQb (b : Block Int) : (writeQb b s).Agree (writeQb b t) :=
  { h with vq := rfl, qb := fun _ => rfl }

theorem writeZq (z : Vector Int 64) : (writeZq z s).Agree (writeZq z t) :=
  { h with vz0 := rfl, vza := rfl, zq0 := fun _ => rfl, zqAc := fun _ _ _ => rfl }

theorem writeZq0 (v : Int) : (writeZq0 v s).Agree (writeZq0 v t) := by
  refine { h with vz0 := rfl, zq0 := fun _ => by simp, zqAc := fun hv k hk => ?_ }
  have hne : 0 ≠ k.val := fun e => hk (Fin.ext e.symm)
  simpa [Vector.getElem_set_ne _ _ hne] using h.zqAc hv k hk

theorem writeZqAc (ac : List Int) : (writeZqAc ac s).Agree (writeZqAc ac t) := by
  refine { h with vza := rfl, zq0 := fun hv => by simpa using h.zq0 hv, zqAc := fun _ k hk => ?_ }
  have hne : k.val ≠ 0 := fun e => hk (Fin.ext e)
  simp [hne]

theorem writeDiff (v : Int) : (writeDiff v s).Agree (writeDiff v t) :=
  { h with vd := rfl, diff := fun _ => rfl }

theorem writeRl (l : List Pair) : (writeRl l s).Agree (writeRl l t) :=
  { h with vr := rfl, rl := fun _ => rfl }

theorem setPred (l : Layer) (v : Int) : (setPred l v s).Agree (setPred l v t) := by
  cases l with
  | lum => exact { h with predLum := rfl }
  | chr => exact { h with predChr := rfl }

theorem withMem (m : Memory) : ({ s with mem := m } : CoreState ν).Agree { t with mem := m } :=
  { h with mem := rfl }

theorem countCommand : (countCommand s).Agree (countCommand t) :=
  { h with cmdCnt := congrArg (· + 1) h.cmdCnt }

theorem takeFault (r : Raise) : (takeFault r s).Agree (takeFault r t) :=
  { h with faulted := rfl, err := rfl, errSeg := rfl, errInfo := rfl }

theorem clearSession : (clearSession s).Agree (clearSession t) :=
  { h with
    xb := nofun, qb := nofun, zq0 := nofun, zqAc := nofun, diff := nofun, rl := nofun
    vx := rfl, vq := rfl, vz0 := rfl, vza := rfl, vd := rfl, vr := rfl
    faulted := rfl, err := rfl, errSeg := rfl, errInfo := rfl, quality := rfl, grey := rfl, predLum := rfl
    predChr := rfl, mem := rfl, remBits := rfl }

end CoreState.Agree

end Sys2Proof.Machine

namespace Sys2Proof.Machine

/-- The effects are the same fault, or states that agree. -/
def Effect.Agree {ν : Type} (e f : Effect ν) : Prop :=
  match e, f with
  | .ok s, .ok t => CoreState.Agree s t
  | .error r, .error r' => r = r'
  | _, _ => False

/-- The rule reads no register that is not valid: on states that agree its effects agree. -/
def ReadsValid {ν : Type} (rule : CoreState ν → Effect ν) : Prop :=
  ∀ s t, s.Agree t → Effect.Agree (rule s) (rule t)

section

variable {ν : Type} {s t : CoreState ν}

@[simp] theorem Effect.agree_error (r : Raise) : Effect.Agree (ν := ν) (.error r) (.error r) := rfl

theorem Effect.agree_checkLimit (c : Limit) (b : Bool) (h : s.Agree t) :
    Effect.Agree (checkLimit c b s) (checkLimit c b t) := by
  cases b with
  | true => exact h
  | false => simp [h.cmdCnt]

theorem Effect.Agree.andThen {e f : Effect ν} {rule : CoreState ν → Effect ν} (h : e.Agree f) (hr : ReadsValid rule) :
    Effect.Agree (andThen e rule) (andThen f rule) := by
  cases e with
  | ok u =>
    cases f with
    | ok v => exact hr u v h
    | error r => cases h
  | error r =>
    cases f with
    | ok v => cases h
    | error r' => exact h

theorem ReadsValid.commandStep {rule : CoreState ν → Effect ν} (hr : ReadsValid rule) (h : s.Agree t) :
    (commandStep rule s).Agree (commandStep rule t) := by
  cases hf : s.faulted with
  | true =>
    rw [commandStep_faulted rule s hf, commandStep_faulted rule t (h.faulted.trans hf)]
    exact h.countCommand
  | false =>
    have hft := h.faulted.trans hf
    have he := hr _ _ h.countCommand
    cases hs : rule (countCommand s) with
    | ok u =>
      cases ht : rule (countCommand t) with
      | ok v =>
        rw [hs, ht] at he
        rwa [commandStep_ok rule s u hf hs, commandStep_ok rule t v hft ht]
      | error r => rw [hs, ht] at he; cases he
    | error r =>
      cases ht : rule (countCommand t) with
      | ok v => rw [hs, ht] at he; cases he
      | error r' =>
        rw [hs, ht] at he
        cases he
        rw [commandStep_error rule s r hf hs, commandStep_error rule t r hft ht]
        exact h.countCommand.takeFault r

variable (p : Params) (n : NumSystem ν) (l : Layer)

theorem ruleCfgq_readsValid (q : Nat) : ReadsValid (ν := ν) (ruleCfgq q) := by
  intro s t h
  unfold ruleCfgq
  split
  · exact { h with quality := rfl }
  · simp

theorem ruleCfgg_readsValid (g : Bool) : ReadsValid (ν := ν) (ruleCfgg g) :=
  fun _ _ h => { h with grey := rfl }

theorem ruleLdx_readsValid : ReadsValid (ν := ν) ruleLdx := by
  intro s t h
  rw [ruleLdx, ruleLdx, h.xin]
  split
  · simp
  · next b _ _ => exact { h.writeXb b with xin := rfl }

theorem ruleStx_readsValid : ReadsValid (ν := ν) ruleStx := by
  intro s t h
  by_cases hv : s.vx = true
  · rw [ruleStx, ruleStx, if_pos hv, if_pos (h.vx.trans hv)]
    exact { h with xout := by rw [h.xout, h.xb hv] }
  · rw [ruleStx, ruleStx, if_neg hv, if_neg (by rwa [h.vx])]
    simp

theorem ruleFdct_readsValid : ReadsValid (ruleFdct n) := by
  intro s t h
  rw [ruleFdct, ruleFdct, h.vx]
  split
  · next hv => rw [h.xb hv]; exact h.writeXb _
  · simp

theorem ruleIdct_readsValid : ReadsValid (ruleIdct n) := by
  intro s t h
  rw [ruleIdct, ruleIdct, h.vx]
  split
  · next hv => rw [h.xb hv]; exact h.writeXb _
  · simp

theorem ruleQnt_readsValid : ReadsValid (ruleQnt p n l) := by
  intro s t h
  rw [ruleQnt, ruleQnt, h.layerBlocked, h.quality, h.vx]
  split_ifs with _ _ hv
  · simp
  · simp
  · rw [h.xb hv]; exact Effect.agree_checkLimit _ _ (h.writeQb _)
  · simp

theorem ruleDqt_readsValid : ReadsValid (ruleDqt p n l) := by
  intro s t h
  rw [ruleDqt, ruleDqt, h.layerBlocked, h.quality, h.vq]
  split_ifs with _ _ hv
  · simp
  · simp
  · rw [h.qb hv]; exact h.writeXb _
  · simp

theorem ruleZz_readsValid : ReadsValid (ν := ν) ruleZz := by
  intro s t h
  rw [ruleZz, ruleZz, h.vq]
  split
  · next hv => rw [h.qb hv]; exact h.writeZq _
  · simp

theorem ruleIzz_readsValid : ReadsValid (ν := ν) ruleIzz := by
  intro s t h
  rw [ruleIzz, ruleIzz, h.vz0, h.vza]
  split
  · next hv =>
    obtain ⟨hv0, hva⟩ := Bool.and_eq_true_iff.mp hv
    rw [h.zq hv0 hva]
    exact h.writeQb _
  · simp

theorem ruleDce_readsValid : ReadsValid (ν := ν) (ruleDce p l) := by
  intro s t h
  simp only [ruleDce, h.layerBlocked, h.vz0, h.predOf]
  split_ifs with _ hv
  · simp
  · rw [h.zq0 hv]; exact Effect.agree_checkLimit _ _ ((h.writeDiff _).setPred l _)
  · simp

theorem ruleDcd_readsValid : ReadsValid (ν := ν) (ruleDcd p l) := by
  intro s t h
  simp only [ruleDcd, h.layerBlocked, h.vd, h.predOf]
  split_ifs with _ hv
  · simp
  · rw [h.diff hv]; exact Effect.agree_checkLimit _ _ ((h.writeZq0 _).setPred l _)
  · simp

theorem ruleRle_readsValid : ReadsValid (ν := ν) ruleRle := by
  intro s t h
  rw [ruleRle, ruleRle, h.vza]
  split
  · next hv => rw [h.acOf hv]; exact h.writeRl _
  · simp

theorem ruleRld_readsValid : ReadsValid (ν := ν) ruleRld := by
  intro s t h
  rw [ruleRld, ruleRld, h.vr]
  split
  · next hv =>
    rw [h.rl hv]
    split
    · simp
    · split
      · exact h.writeZqAc _
      · simp
  · simp

theorem appendBits_agree (k : Fin 4) (b : Bits) (h : s.Agree t) :
    Effect.Agree (appendBits p k b s) (appendBits p k b t) := by
  rw [appendBits, appendBits, h.mem]
  exact Effect.agree_checkLimit _ _ (h.withMem _)

theorem ruleHedc_readsValid : ReadsValid (ν := ν) (ruleHedc p l) := by
  intro s t h
  rw [ruleHedc, ruleHedc, h.layerBlocked, h.vd]
  split
  · simp
  · split
    · next hv =>
      rw [h.diff hv]
      split
      · split
        · exact appendBits_agree p _ _ h
        · simp
      · simp
    · simp

theorem ruleHeac_readsValid : ReadsValid (ν := ν) (ruleHeac p l) := by
  intro s t h
  rw [ruleHeac, ruleHeac, h.layerBlocked, h.vr]
  split
  · simp
  · split
    · next hv =>
      rw [h.rl hv]
      split
      · exact appendBits_agree p _ _ h
      · simp
    · simp

theorem takeDc_agree (y : Symbol) (m : Nat) (h : s.Agree t) : Effect.Agree (takeDc p l y m s) (takeDc p l y m t) := by
  rw [takeDc, takeDc, h.mem]
  exact Effect.agree_checkLimit _ _ ((h.withMem _).writeDiff _)

theorem commitAc_agree (r : Except Raise (List Pair × Nat)) (h : s.Agree t) :
    Effect.Agree (commitAc p l r s) (commitAc p l r t) := by
  cases r with
  | error e => exact Effect.agree_error e
  | ok r =>
    rw [commitAc, commitAc, h.mem]
    exact Effect.agree_checkLimit _ _ ((h.withMem _).writeRl _)

theorem ruleHddc_readsValid : ReadsValid (ν := ν) (ruleHddc p l) := by
  intro s t h
  simp only [ruleHddc, h.layerBlocked, h.mem]
  split
  · simp
  · split
    · simp
    · exact takeDc_agree p l _ _ h

theorem ruleHdac_readsValid : ReadsValid (ν := ν) (ruleHdac p l) := by
  intro s t h
  simp only [ruleHdac, h.layerBlocked, h.mem]
  split
  · simp
  · exact commitAc_agree p l _ h

theorem rulePack_readsValid : ReadsValid (ν := ν) (rulePack p) := by
  intro s t h
  rw [rulePack, rulePack, packRecord, packRecord, h.activeSegs, h.bout]
  exact { h with remBits := rfl, bout := rfl }

theorem ruleSlice_readsValid : ReadsValid (ν := ν) (ruleSlice p) := by
  intro s t h
  rw [ruleSlice, ruleSlice, h.bin, h.nseg]
  split
  · simp
  · split
    · simp
    · exact Effect.agree_checkLimit _ _ { h with mem := rfl, remBits := rfl, bin := rfl }

theorem ruleEncblk_readsValid : ReadsValid (ruleEncblk p n l) := by
  intro s t h
  rw [ruleEncblk, ruleEncblk, h.layerBlocked, h.quality, h.xin]
  split_ifs
  · simp
  · simp
  · simp
  · exact ruleLdx_readsValid s t h
      |>.andThen (ruleFdct_readsValid n)
      |>.andThen (ruleQnt_readsValid p n l)
      |>.andThen ruleZz_readsValid
      |>.andThen (ruleDce_readsValid p l)
      |>.andThen (ruleHedc_readsValid p l)
      |>.andThen ruleRle_readsValid
      |>.andThen (ruleHeac_readsValid p l)

theorem ruleDecblk_readsValid : ReadsValid (ruleDecblk p n l) := by
  intro s t h
  rw [ruleDecblk, ruleDecblk, h.layerBlocked, h.quality]
  split_ifs
  · simp
  · simp
  · exact ruleHddc_readsValid p l s t h
      |>.andThen (ruleDcd_readsValid p l)
      |>.andThen (ruleHdac_readsValid p l)
      |>.andThen ruleRld_readsValid
      |>.andThen ruleIzz_readsValid
      |>.andThen (ruleDqt_readsValid p n l)
      |>.andThen (ruleIdct_readsValid n)
      |>.andThen ruleStx_readsValid

theorem symbolRule_readsValid (y : Symbol) : ReadsValid (ν := ν) (symbolRule p y) := by
  intro s t h
  cases hy : y.type with
  | dc =>
    simp only [symbolRule, hy, ruleDcSymbol, h.layerBlocked, h.mem]
    split_ifs
    · simp
    · simp
    · exact takeDc_agree p _ _ _ h
  | ac =>
    simp only [symbolRule, hy, ruleAcSymbol, h.layerBlocked, h.mem]
    split_ifs
    · simp
    · simp
    · exact commitAc_agree p _ _ h

theorem commandRule?_readsValid {i : Instr} {rule : CoreState ν → Effect ν} (h : commandRule? p n i = some rule) :
    ReadsValid rule := by
  unfold commandRule? at h
  split at h <;> cases h
  · exact fun _ _ h => h
  · exact ruleCfgq_readsValid _
  · exact ruleCfgg_readsValid _
  · exact ruleLdx_readsValid
  · exact ruleStx_readsValid
  · exact ruleFdct_readsValid n
  · exact ruleIdct_readsValid n
  · exact ruleQnt_readsValid p n _
  · exact ruleDqt_readsValid p n _
  · exact ruleZz_readsValid
  · exact ruleIzz_readsValid
  · exact ruleDce_readsValid p _
  · exact ruleDcd_readsValid p _
  · exact ruleRle_readsValid
  · exact ruleRld_readsValid
  · exact ruleHedc_readsValid p _
  · exact ruleHeac_readsValid p _
  · exact ruleHddc_readsValid p _
  · exact ruleHdac_readsValid p _
  · exact rulePack_readsValid p
  · exact ruleSlice_readsValid p
  · exact ruleEncblk_readsValid p n _
  · exact ruleDecblk_readsValid p n _

theorem coreExec_agree (i : Instr) (h : s.Agree t) : (coreExec p n i s).Agree (coreExec p n i t) := by
  by_cases hi : i = .clr
  · subst hi
    exact h.countCommand.clearSession
  · obtain ⟨rule, hrule, hc | ⟨y, -, rfl⟩⟩ := rule_of_ne_clr p n i hi
    · rw [hrule]; exact (commandRule?_readsValid p n hc).commandStep h
    · rw [hrule]; exact (symbolRule_readsValid p y).commandStep h

end

/-- Settles O20: every rule reads a register only after its valid flag, and writes the same to both states. -/
theorem unwrittenRegistersUnread : Obligations.UnwrittenRegistersUnread := by
  intro i s t h
  obtain ⟨hcore, hparams, hcmd⟩ := (State.agreeOnValid_iff s t).mp h
  refine ⟨_, _, exec_eq_coreExec i s, exec_eq_coreExec i t, (State.agreeOnValid_iff _ _).mpr ⟨?_, hparams, hcmd⟩⟩
  rw [hparams]
  exact coreExec_agree s.params exactSystem i hcore

end Sys2Proof.Machine

namespace Sys2Proof.Machine

/-! ### Command words (30_encoding R91 to R94) -/

/-- The opcode map as a decoder: the command of the first row that matches the word (30_encoding R93). -/
def rowDecode (w : Word) : Option Instr :=
  (commandRows.find? fun r => w &&& r.mask == r.pattern).map fun r => r.build w

/-- Both decoders answer the command that has the word, whichever of its operands it has: the 128 qualities its field holds,
the two grey flags, the two layers. -/
theorem decoders_of_word? {i : Instr} {w : Word} (hwf : i.wellFormed = true) (h : i.word? = some w) :
    decodeWord w = some i ∧ rowDecode w = some i := by
  cases i <;> cases h
  case cfgq q =>
    have hq : q < 128 := by simpa [Instr.wellFormed] using hwf
    interval_cases q <;> exact ⟨rfl, rfl⟩
  case cfgg g => cases g <;> exact ⟨rfl, rfl⟩
  case qnt l | dqt l | dce l | dcd l | hedc l | heac l | hddc l | hdac l | encblk l | decblk l =>
    cases l <;> exact ⟨rfl, rfl⟩
  all_goals exact ⟨rfl, rfl⟩

theorem formatN_some {i j : Instr} {arg : Nat} (h : formatN i arg = some j) : arg = 0 ∧ j = i := by
  unfold formatN at h
  split_ifs at h with h0
  exact ⟨h0, (Option.some.inj h).symm⟩

theorem formatL_some {f : Layer → Instr} {j : Instr} {arg : Nat} (h : formatL f arg = some j) :
    ∃ l : Layer, arg = l.code ∧ j = f l := by
  unfold formatL at h
  split_ifs at h with h0 h1
  · exact ⟨.lum, h0, (Option.some.inj h).symm⟩
  · exact ⟨.chr, h1, (Option.some.inj h).symm⟩

theorem formatG_some {f : Bool → Instr} {j : Instr} {arg : Nat} (h : formatG f arg = some j) :
    ∃ g : Bool, arg = g.toNat ∧ j = f g := by
  unfold formatG at h
  split_ifs at h with h0 h1
  · exact ⟨false, h0, (Option.some.inj h).symm⟩
  · exact ⟨true, h1, (Option.some.inj h).symm⟩

theorem formatQ_some {f : Nat → Instr} {j : Instr} {arg : Nat} (h : formatQ f arg = some j) : arg < 128 ∧ j = f arg := by
  unfold formatQ at h
  split_ifs at h with hq
  exact ⟨hq, (Option.some.inj h).symm⟩

/-- A word is its opcode and its argument (30_encoding R91). -/
theorem word_eq_opcode_arg (w : Word) : BitVec.ofNat 16 (256 * (w.toNat / 256) + w.toNat % 256) = w := by
  rw [Nat.div_add_mod, BitVec.ofNat_toNat, BitVec.setWidth_eq]

/-- What `decodeWord` answers is well-formed and has that word. The cases are numbered as the rows of the opcode map: the third
has a quality, the fourth a grey flag, those listed a layer, the others no operand. -/
theorem decodeWord_some {i : Instr} {w : Word} (h : decodeWord w = some i) :
    i.wellFormed = true ∧ i.word? = some w := by
  rw [← word_eq_opcode_arg w]
  unfold decodeWord at h
  generalize w.toNat % 256 = arg at h ⊢
  split at h
  case h_3 hop =>
    obtain ⟨hq, rfl⟩ := formatQ_some h
    exact ⟨by simpa [Instr.wellFormed] using hq, by rw [hop]; rfl⟩
  case h_4 hop =>
    obtain ⟨g, rfl, rfl⟩ := formatG_some h
    exact ⟨rfl, by rw [hop]; rfl⟩
  case h_9 hop | h_10 hop | h_13 hop | h_14 hop | h_17 hop | h_18 hop | h_19 hop | h_20 hop | h_23 hop | h_24 hop =>
    obtain ⟨l, rfl, rfl⟩ := formatL_some h
    exact ⟨rfl, by rw [hop]; rfl⟩
  case h_25 => cases h
  all_goals
    rename_i hop
    obtain ⟨rfl, rfl⟩ := formatN_some h
    exact ⟨rfl, by rw [hop]; rfl⟩

/-- The command a row builds from a word is well-formed, and its word is the row's `match` with the operand bits of that word
(30_encoding R92, R93). -/
theorem word?_build : ∀ r ∈ commandRows, ∀ w : Word,
    (r.build w).wellFormed = true ∧ (r.build w).word? = some (r.pattern + (w &&& ~~~r.mask)) := by
  have bit (w : Word) : BitVec.ofNat 16 w[0].toNat = w &&& 1#16 := by
    rw [BitVec.and_one_eq_setWidth_ofBool_getLsbD]
    cases h : w.getLsbD 0 <;> simp_all
  have layer (w : Word) : BitVec.ofNat 16 (layerBit w).code = w &&& 1#16 := by
    rw [← bit, layerBit]
    cases h : w.getLsbD 0 <;> simp_all [Layer.code]
  have quality (w : Word) : w.toNat &&& 127 < 128 := Nat.lt_succ_of_le Nat.and_le_right
  simp [commandRows, Instr.wellFormed, Instr.word?, BitVec.ofNat_add, bit, layer, quality]

/-- A word is its bits under a mask and its bits beside it. -/
theorem and_add_and_not (w m : Word) : (w &&& m) + (w &&& ~~~m) = w := by
  have hdisjoint : (w &&& m) &&& (w &&& ~~~m) = 0#16 := by
    ext k hk
    cases hm : m[k] <;> simp [hm]
  rw [BitVec.add_eq_or_of_and_eq_zero _ _ hdisjoint, ← BitVec.and_or_distrib_left, BitVec.or_not_self,
    BitVec.and_allOnes]

/-- What the opcode map answers is well-formed and has that word. -/
theorem rowDecode_some {i : Instr} {w : Word} (h : rowDecode w = some i) :
    i.wellFormed = true ∧ i.word? = some w := by
  obtain ⟨r, hr, rfl⟩ := Option.map_eq_some_iff.mp h
  have hmatch : w &&& r.mask = r.pattern := by simpa using List.find?_some hr
  simpa [← hmatch, and_add_and_not] using word?_build r (List.mem_of_find?_eq_some hr) w

/-- Settles O5: each direction is a case per command. -/
theorem commandDecodeEncode : Obligations.CommandDecodeEncode :=
  ⟨fun _ _ hwf h => (decoders_of_word? hwf h).1, fun _ _ h => decodeWord_some h⟩

/-- Settles O4: `decodeWord` and the opcode map both undo `word?`, so they answer the same commands. -/
theorem decoderIsOpcodeMap : Obligations.DecoderIsOpcodeMap := by
  intro w
  change decodeWord w = rowDecode w
  refine Option.ext fun i => ⟨fun h => ?_, fun h => ?_⟩
  · obtain ⟨hwf, hw⟩ := decodeWord_some h
    exact (decoders_of_word? hwf hw).2
  · obtain ⟨hwf, hw⟩ := rowDecode_some h
    exact (decoders_of_word? hwf hw).1

end Sys2Proof.Machine

namespace Sys2Proof.Machine

open Sys2Proof.Laws (length_binOf)

/-! ### Bit-stream symbols: the instructions and the symbols they are (30_encoding R98, R99) -/

/-- An instruction that is a symbol is none of those that have a word (30_encoding R90, R98). -/
theorem word?_of_symbol? {i : Instr} {y : Symbol} (h : i.symbol? = some y) : i.word? = none := by
  cases i <;> cases h <;> rfl

/-- What holds of a row whose instruction has the literal as its operand: `f` is the row's constructor. -/
theorem instr?_of_constructor {ty : ValType} {l : Layer} {run size : Nat} {f : BitVec size → Instr}
    (hkey : ValType.hasKey ty run size = true)
    (hf : ∀ n, Symbol.instr? ⟨ty, l, run, size, n⟩ = some (f (BitVec.ofNat size n))) (v : BitVec size) :
    ValType.hasKey ty run size = true ∧ v.toNat < 2 ^ size ∧ Symbol.instr? ⟨ty, l, run, size, v.toNat⟩ = some (f v) :=
  ⟨hkey, v.isLt, by rw [hf, BitVec.ofNat_toNat, BitVec.setWidth_eq]⟩

/-- An instruction that is a symbol is the one made from that symbol, whose key is in its table and whose literal fits its
size: six rows without a literal, 342 with one. -/
theorem instr?_of_symbol? {i : Instr} {y : Symbol} (h : i.symbol? = some y) :
    ValType.hasKey y.type y.run y.size = true ∧ y.lit < 2 ^ y.size ∧ y.instr? = some i := by
  cases i <;> cases h
  case dcLumS0 | dcChrS0 | acLumEob | acLumZrl | acChrEob | acChrZrl => exact ⟨rfl, Nat.one_pos, rfl⟩
  all_goals exact instr?_of_constructor rfl (fun _ => rfl) _

/-- Row by row, the instruction made from a symbol is that symbol, with no more of the literal than its size holds. -/
theorem symbol?_instr?_keys (ty : ValType) (l : Layer) (lit : Nat) :
    ((ValType.keys ty).map fun k => (Symbol.instr? ⟨ty, l, k.1, k.2, lit⟩).bind Instr.symbol?) =
      (ValType.keys ty).map fun k => some ⟨ty, l, k.1, k.2, if k.2 = 0 then 0 else lit % 2 ^ k.2⟩ := by
  cases ty <;> cases l <;> rfl

theorem mem_keys_of_hasKey {ty : ValType} {run size : Nat} (h : ValType.hasKey ty run size = true) :
    (run, size) ∈ ValType.keys ty := by
  cases ty with
  | dc => simp [ValType.hasKey, ValType.keys] at h ⊢; omega
  | ac =>
    simp only [ValType.hasKey, Bool.or_eq_true, Bool.and_eq_true, Nat.ble_eq, Nat.beq_eq] at h
    simp only [ValType.keys, List.mem_cons, List.mem_flatMap, List.mem_map, List.mem_range, Prod.mk.injEq]
    obtain ⟨⟨hrun, hlow⟩, hhigh⟩ | ⟨rfl, rfl | rfl⟩ := h
    · exact .inr (.inr ⟨run, by omega, size - 1, by omega, rfl, by omega⟩)
    · exact .inl ⟨rfl, rfl⟩
    · exact .inr (.inl ⟨rfl, rfl⟩)

/-- Every symbol with a key of its table and a literal of its size is an instruction's (30_encoding R98, R99). -/
theorem exists_symbol?_eq {y : Symbol} (hkey : ValType.hasKey y.type y.run y.size = true) (hlit : y.lit < 2 ^ y.size) :
    ∃ i : Instr, i.symbol? = some y := by
  have hrow := List.map_inj_left.mp (symbol?_instr?_keys y.type y.layer y.lit) _ (mem_keys_of_hasKey hkey)
  have hcut : (if y.size = 0 then 0 else y.lit % 2 ^ y.size) = y.lit := by
    split
    · next h0 => simpa [h0, eq_comm] using hlit
    · exact Nat.mod_eq_of_lt hlit
  rw [hcut] at hrow
  obtain ⟨i, -, hi⟩ := Option.bind_eq_some_iff.mp hrow
  exact ⟨i, hi⟩

/-! ### Bit-stream symbols: reading and writing (45_huffman R205 to R207, R213) -/

/-- In valid tables a symbol is encoded as the codeword of its key and its literal (30_encoding R99, 45_huffman R205). -/
theorem encode_symbol {h : HTables} (hv : h.valid = true) {i : Instr} {y : Symbol} (hy : i.symbol? = some y) :
    ∃ c ∈ (h.get y.type y.layer).codes, c.run = y.run ∧ c.size = y.size ∧
      encode h i = c.bits ++ binOf y.size y.lit := by
  obtain ⟨hkey, -, -⟩ := instr?_of_symbol? hy
  obtain ⟨hkeys, -, -, -⟩ := (HTable.valid_iff _ _).mp (HTables.valid_get hv y.type y.layer)
  obtain ⟨c, hc⟩ := Option.isSome_iff_exists.mp (hkeys _ (mem_keys_of_hasKey hkey))
  obtain ⟨hmem, hrun, hsize⟩ := code?_some hc
  exact ⟨c, hmem, hrun, hsize, by simp [encode, word?_of_symbol? hy, hy, Symbol.bits, hc]⟩

/-- Settles O6: the encoding is a codeword and a literal, which the reader reads back whatever follows; and the instruction
is the one made from its symbol. -/
theorem symbolDecodeEncode : Obligations.SymbolDecodeEncode := by
  intro h i y tail hv hy
  obtain ⟨-, hlit, hinstr⟩ := instr?_of_symbol? hy
  obtain ⟨c, hmem, hrun, hsize, henc⟩ := encode_symbol hv hy
  have hread : readSymbol h y.type y.layer (encode h i ++ tail) = .ok (y, (encode h i).length) := by
    rw [henc, readSymbol_code hv hmem (by rw [length_binOf, hsize]), hrun, hsize, valOf_binOf, Nat.mod_eq_of_lt hlit]
    simp [length_binOf]
  exact ⟨hread, by simp [decodeSymbol, hread, hinstr]⟩

theorem valOf_lt (b : Bits) : valOf b < 2 ^ b.length := by
  induction b with
  | nil => exact Nat.one_pos
  | cons x b ih => rw [valOf_cons, List.length_cons, Nat.pow_succ]; cases x <;> simp <;> omega

/-- Bit strings of one length with one value are the same (00_scope R12). -/
theorem eq_of_valOf_eq {a b : Bits} (hlen : a.length = b.length) (h : valOf a = valOf b) : a = b := by
  induction a generalizing b with
  | nil => exact (List.length_eq_zero_iff.mp hlen.symm).symm
  | cons x a ih =>
    obtain ⟨y, b, rfl⟩ := List.exists_cons_of_length_eq_add_one hlen.symm
    rw [List.length_cons, List.length_cons, Nat.add_right_cancel_iff] at hlen
    rw [valOf_cons, valOf_cons, hlen] at h
    have ha := valOf_lt a
    have hb := valOf_lt b
    rw [hlen] at ha
    obtain ⟨hx, hval⟩ : x = y ∧ valOf a = valOf b := by cases x <;> cases y <;> simp at h ⊢ <;> omega
    rw [hx, ih hlen hval]

/-- A bit string is the numeral of its value (00_scope R12). -/
theorem binOf_valOf {n : Nat} {b : Bits} (h : b.length = n) : binOf n (valOf b) = b := by
  subst h
  exact eq_of_valOf_eq (length_binOf _ _) (by rw [valOf_binOf, Nat.mod_eq_of_lt (valOf_lt b)])

/-- A symbol that is read stands at the head of the bits: a codeword of the table, then as many literal bits as it asks for
(45_huffman R206, R207). -/
theorem readSymbol_eq_ok {h : HTables} {ty : ValType} {l : Layer} {rest : Bits} {y : Symbol} {n : Nat}
    (hr : readSymbol h ty l rest = .ok (y, n)) :
    ∃ c ∈ (h.get ty l).codes, ∃ lit : Bits, lit.length = c.size ∧ c.bits ++ lit <+: rest ∧
      y = ⟨ty, l, c.run, c.size, valOf lit⟩ ∧ n = c.len + c.size := by
  simp only [readSymbol] at hr
  split at hr
  · cases hr
  · next c hc =>
    obtain ⟨hmem, hlen, -, hword⟩ := matchCode_ok hc
    split at hr
    · cases hr
    · next hlit =>
      cases hr
      have hbits : c.bits = rest.take c.len := by
        rw [Code.bits, ← hword, binOf_valOf (List.length_take_of_le hlen)]
      have hwin : (window rest c.len c.size).length = c.size :=
        Nat.le_antisymm (List.length_take_le _ _) (Nat.not_lt.mp hlit)
      refine ⟨c, hmem, _, hwin, ?_, rfl, rfl⟩
      rw [hbits, window, ← List.take_add]
      exact List.take_prefix _ _

/-- Settles O7: the codeword and the literal bits that were read are the encoding of the instruction with that key and that
literal, since a valid table has a key only once. -/
theorem symbolReadStandsThere : Obligations.SymbolReadStandsThere := by
  intro h ty l rest y n hv hr
  obtain ⟨c, hmem, lit, hlit, hprefix, rfl, rfl⟩ := readSymbol_eq_ok hr
  have ht := HTables.valid_get hv ty l
  obtain ⟨-, hcodes, -, -⟩ := (HTable.valid_iff ty _).mp ht
  obtain ⟨i, hi⟩ := exists_symbol?_eq (y := ⟨ty, l, c.run, c.size, valOf lit⟩) (hcodes c hmem).1 (hlit ▸ valOf_lt lit)
  obtain ⟨d, hd, hrun, hsize, henc⟩ := encode_symbol hv hi
  obtain rfl := HTable.eq_of_clash ht hd hmem (by simp [Code.clash, hrun, hsize])
  rw [binOf_valOf hlit] at henc
  exact ⟨i, hi, rfl, rfl, by simp [henc, hlit], henc ▸ hprefix⟩

/-- Settles O3, by running the two decoders. -/
theorem sampleDecodings : Obligations.SampleDecodings :=
  ⟨rfl, rfl, rfl, rfl, rfl, rfl, rfl, rfl, rfl, rfl, rfl, rfl⟩

end Sys2Proof.Machine

namespace Sys2Proof.Machine

/-! ### The numbers `2cos(mπ/16)` (40_transform R120, R121) -/

/-- `2cos(mπ/16)`. -/
noncomputable def twoCos (m : ℤ) : ℝ :=
  2 * Real.cos (m * Real.pi / 16)

/-- `2cos(a)·2cos(b) = 2cos(a+b) + 2cos(a-b)`. -/
theorem twoCos_mul (a b : ℤ) : twoCos a * twoCos b = twoCos (a + b) + twoCos (a - b) := by
  have h := Real.two_mul_cos_mul_cos (a * Real.pi / 16) (b * Real.pi / 16)
  rw [← sub_div, ← add_div, ← sub_mul, ← add_mul] at h
  simp only [twoCos, Int.cast_add, Int.cast_sub]
  linear_combination 2 * h

theorem twoCos_neg (m : ℤ) : twoCos (-m) = twoCos m := by
  rw [twoCos, Int.cast_neg, neg_mul, neg_div, Real.cos_neg, twoCos]

/-- The angle taken from `π`. -/
theorem twoCos_sixteen_sub (m : ℤ) : twoCos (16 - m) = -twoCos m := by
  have h : ((16 - m : ℤ) : ℝ) * Real.pi / 16 = Real.pi - m * Real.pi / 16 := by push_cast; ring
  rw [twoCos, h, Real.cos_pi_sub, mul_neg, twoCos]

/-- The angle counts modulo `2π`. -/
theorem twoCos_add_thirtyTwo_mul (m n : ℤ) : twoCos (m + 32 * n) = twoCos m := by
  have h : ((m + 32 * n : ℤ) : ℝ) * Real.pi / 16 = m * Real.pi / 16 + n * (2 * Real.pi) := by push_cast; ring
  rw [twoCos, h, Real.cos_add_int_mul_two_pi, twoCos]

theorem twoCos_thirtyTwo_sub (m : ℤ) : twoCos (32 - m) = twoCos m := by
  rw [sub_eq_neg_add, ← mul_one (32 : ℤ), twoCos_add_thirtyTwo_mul, twoCos_neg]

theorem twoCos_sixteen_add (m : ℤ) : twoCos (16 + m) = -twoCos m := by
  rw [← sub_neg_eq_add, twoCos_sixteen_sub, twoCos_neg]

theorem twoCos_zero : twoCos 0 = 2 := by simp [twoCos]

theorem twoCos_eight : twoCos 8 = 0 := by
  have h := twoCos_sixteen_sub 8
  norm_num at h
  linarith

theorem twoCos_pos {m : ℤ} (h0 : 0 ≤ m) (h8 : m < 8) : 0 < twoCos m := by
  have h0' : (0 : ℝ) ≤ m := Int.cast_nonneg h0
  have h8' : (m : ℝ) < 8 := by exact_mod_cast h8
  refine mul_pos two_pos (Real.cos_pos_of_mem_Ioo ⟨?_, ?_⟩) <;> nlinarith [Real.pi_pos]

/-! ### The real number an exact number stands for (log 1) -/

/-- The real number of integer coefficients. -/
noncomputable def Cyc.toReal (x : Cyc) : ℝ :=
  x.n0 + x.n1 * twoCos 1 + x.n2 * twoCos 2 + x.n3 * twoCos 3 + x.n4 * twoCos 4 + x.n5 * twoCos 5 + x.n6 * twoCos 6
    + x.n7 * twoCos 7

theorem NUM.toReal_eq (x : NUM) :
    x.toReal = x.c0 + x.c1 * twoCos 1 + x.c2 * twoCos 2 + x.c3 * twoCos 3 + x.c4 * twoCos 4 + x.c5 * twoCos 5
      + x.c6 * twoCos 6 + x.c7 * twoCos 7 := by
  simp only [NUM.toReal, twoCos, Int.cast_one, Int.cast_ofNat]

@[simp] theorem NUM.toReal_ofRat (q : ℚ) : (NUM.ofRat q).toReal = q := by
  simp [NUM.toReal_eq, NUM.ofRat]

@[simp] theorem NUM.toReal_scale (q : ℚ) (x : NUM) : (NUM.scale q x).toReal = q * x.toReal := by
  simp only [NUM.toReal_eq, NUM.scale, Rat.cast_mul]
  ring

@[simp] theorem Cyc.toReal_add (x y : Cyc) : (x.add y).toReal = x.toReal + y.toReal := by
  simp only [Cyc.toReal, Cyc.add, Int.cast_add]
  ring

@[simp] theorem Cyc.toReal_scale (k : Int) (x : Cyc) : (Cyc.scale k x).toReal = k * x.toReal := by
  simp only [Cyc.toReal, Cyc.scale, Int.cast_mul]
  ring

@[simp] theorem Cyc.toReal_sum8 (f : Fin 8 → Cyc) : (Cyc.sum8 f).toReal = ∑ k, (f k).toReal := by
  simp only [Cyc.sum8, Cyc.toReal_add, Fin.sum_univ_eight]

/-- The product with a cosine, one coefficient after another. -/
theorem Cyc.twoCos_mul_toReal (m : ℤ) (x : Cyc) :
    twoCos m * x.toReal = x.n0 * twoCos m + x.n1 * (twoCos (m + 1) + twoCos (m - 1))
      + x.n2 * (twoCos (m + 2) + twoCos (m - 2)) + x.n3 * (twoCos (m + 3) + twoCos (m - 3))
      + x.n4 * (twoCos (m + 4) + twoCos (m - 4)) + x.n5 * (twoCos (m + 5) + twoCos (m - 5))
      + x.n6 * (twoCos (m + 6) + twoCos (m - 6)) + x.n7 * (twoCos (m + 7) + twoCos (m - 7)) := by
  simp only [← twoCos_mul, Cyc.toReal]
  ring

/-- `Cyc.mulCos` is the product with the cosine: in each row the angles above `8π/16` are folded back. -/
theorem Cyc.toReal_mulCos {m : Nat} (h1 : 1 ≤ m) (h7 : m ≤ 7) (x : Cyc) :
    (Cyc.mulCos m x).toReal = twoCos m * x.toReal := by
  have fold : twoCos 9 = -twoCos 7 ∧ twoCos 10 = -twoCos 6 ∧ twoCos 11 = -twoCos 5 ∧ twoCos 12 = -twoCos 4 ∧
      twoCos 13 = -twoCos 3 ∧ twoCos 14 = -twoCos 2 :=
    ⟨twoCos_sixteen_sub 7, twoCos_sixteen_sub 6, twoCos_sixteen_sub 5, twoCos_sixteen_sub 4, twoCos_sixteen_sub 3,
      twoCos_sixteen_sub 2⟩
  rw [Cyc.twoCos_mul_toReal]
  interval_cases m <;>
    norm_num [Cyc.toReal, Cyc.mulCos, twoCos_neg, twoCos_zero, twoCos_eight, fold] <;> ring

end Sys2Proof.Machine

namespace Sys2Proof.Machine

open Finset Matrix

/-! ### Common denominators -/

/-- Every coefficient's denominator divides the common one. -/
theorem NUM.den_dvd_iff (x : NUM) (d : Nat) :
    x.den ∣ d ↔ x.c0.den ∣ d ∧ x.c1.den ∣ d ∧ x.c2.den ∣ d ∧ x.c3.den ∣ d ∧ x.c4.den ∣ d ∧ x.c5.den ∣ d ∧
      x.c6.den ∣ d ∧ x.c7.den ∣ d := by
  simp only [NUM.den, Nat.lcm_dvd_iff, and_assoc]

theorem NUM.den_pos (x : NUM) : 0 < x.den := by
  simp only [NUM.den, Nat.lcm_pos_iff, Rat.den_pos, and_self]

theorem numeratorOver_cast {d : Nat} {q : ℚ} (h : q.den ∣ d) : (numeratorOver d q : ℝ) = d * q := by
  have hq : (q.den : ℝ) ≠ 0 := Nat.cast_ne_zero.mpr q.den_ne_zero
  rw [numeratorOver, Int.cast_mul, Int.cast_natCast, Nat.cast_div h hq, Rat.cast_def]
  ring

/-- The number over a common denominator. -/
theorem NUM.toReal_times {d : Nat} {x : NUM} (h : x.den ∣ d) : (x.times d).toReal = d * x.toReal := by
  obtain ⟨h0, h1, h2, h3, h4, h5, h6, h7⟩ := (x.den_dvd_iff d).mp h
  simp only [Cyc.toReal, NUM.times, NUM.toReal_eq, numeratorOver_cast, h0, h1, h2, h3, h4, h5, h6, h7]
  ring

/-- The denominator divided out. -/
theorem Cyc.toReal_over (d : Nat) (x : Cyc) : (x.over d).toReal = x.toReal / d := by
  simp only [NUM.toReal_eq, Cyc.over, Rat.mkRat_eq_div, Cyc.toReal]
  push_cast
  ring

/-- The fold of `blockDen` is a positive common multiple of what it starts from and of every denominator. -/
theorem foldl_lcm_den (l : List NUM) (d : Nat) (hd : 0 < d) :
    let e := l.foldl (fun d x => Nat.lcm d x.den) d
    0 < e ∧ d ∣ e ∧ ∀ x ∈ l, x.den ∣ e := by
  induction l generalizing d with
  | nil => simp [hd]
  | cons y l ih =>
    obtain ⟨hpos, hdvd, hl⟩ := ih (Nat.lcm d y.den) (Nat.lcm_pos hd y.den_pos)
    exact ⟨hpos, (Nat.dvd_lcm_left _ _).trans hdvd,
      List.forall_mem_cons.mpr ⟨(Nat.dvd_lcm_right _ _).trans hdvd, hl⟩⟩

theorem blockDen_pos (b : Block NUM) : 0 < blockDen b :=
  (foldl_lcm_den b.toList 1 Nat.one_pos).1

theorem den_dvd_blockDen (b : Block NUM) (i j : Fin 8) : (blockAt b i j).den ∣ blockDen b := by
  obtain ⟨-, -, hall⟩ := foldl_lcm_den b.toList 1 Nat.one_pos
  exact hall _ (by simp [blockAt])

/-! ### Blocks and matrices -/

@[simp] theorem raster_rowOf_colOf (k : Fin 64) : raster (rowOf k) (colOf k) = k := by
  ext; simp only [raster, rowOf, colOf]; omega

@[simp] theorem rowOf_raster (i j : Fin 8) : rowOf (raster i j) = i := by
  ext; simp only [raster, rowOf]; omega

@[simp] theorem colOf_raster (i j : Fin 8) : colOf (raster i j) = j := by
  ext; simp only [raster, colOf]; omega

@[simp] theorem blockAt_blockOf {α : Type} (f : Fin 8 → Fin 8 → α) (i j : Fin 8) : blockAt (blockOf f) i j = f i j := by
  simp [blockAt, blockOf]

@[simp] theorem blockAt_map {α β : Type} (g : α → β) (b : Block α) (i j : Fin 8) :
    blockAt (b.map g) i j = g (blockAt b i j) := by
  simp [blockAt]

/-- Blocks with the same elements are the same. -/
theorem block_ext {α : Type} {a b : Block α} (h : ∀ i j, blockAt a i j = blockAt b i j) : a = b := by
  refine Vector.ext fun k hk => ?_
  have := h (rowOf ⟨k, hk⟩) (colOf ⟨k, hk⟩)
  simp only [blockAt, raster_rowOf_colOf] at this
  exact this

/-- The real matrix a block stands for (log 1). -/
noncomputable def realMatrix (b : Block NUM) : Matrix (Fin 8) (Fin 8) ℝ :=
  Matrix.of fun i j => (blockAt b i j).toReal

@[simp] theorem realMatrix_apply (b : Block NUM) (i j : Fin 8) : realMatrix b i j = (blockAt b i j).toReal := rfl

@[simp] theorem matrixOf_get (f : Fin 8 → Fin 8 → Cyc) (i j : Fin 8) : (matrixOf f)[i][j] = f i j := by
  simp [matrixOf]

/-- `sandwich` is the product `M·B·Mᵀ` of real matrices, where `m` multiplies with the entries of `4·M`. -/
theorem realMatrix_sandwich {m : Fin 8 → Fin 8 → Cyc → Cyc} {M : Matrix (Fin 8) (Fin 8) ℝ}
    (hm : ∀ r k x, (m r k x).toReal = 4 * M r k * x.toReal) (b : Block NUM) :
    realMatrix (sandwich m b) = M * realMatrix b * Mᵀ := by
  have hd : (blockDen b : ℝ) ≠ 0 := Nat.cast_ne_zero.mpr (blockDen_pos b).ne'
  ext r c
  simp only [sandwich, realMatrix_apply, blockAt_blockOf, matRight, matLeft, matrixOf_get, Cyc.toReal_over,
    Cyc.toReal_sum8, hm, NUM.toReal_times (den_dvd_blockDen b _ _), Matrix.mul_apply, Matrix.transpose_apply]
  rw [div_eq_iff (by simpa using hd), sum_mul]
  refine sum_congr rfl fun k _ => ?_
  rw [mul_sum, sum_mul, sum_mul]
  refine sum_congr rfl fun l _ => ?_
  push_cast
  ring

/-! ### The basis matrix (40_transform R120) -/

/-- The basis matrix `A` of 40_transform R120. -/
noncomputable def dctBasis : Matrix (Fin 8) (Fin 8) ℝ :=
  Matrix.of fun u i => dctScale u / 2 * dctCos i u

theorem dctBasis_apply (u i : Fin 8) : dctBasis u i = dctScale u / 2 * dctCos i u := rfl

theorem two_mul_dctCos (i u : Fin 8) : 2 * dctCos i u = twoCos ((2 * i + 1) * u) := by
  simp [dctCos, twoCos]

theorem dctEntry_range : ∀ u i : Fin 8, 1 ≤ (dctEntry u i).2 ∧ (dctEntry u i).2 ≤ 7 := by decide

theorem twoCos_natCast_mod (n : Nat) : twoCos (n % 32 : Nat) = twoCos n := by
  conv_rhs => rw [← Nat.mod_add_div n 32]
  rw [Nat.cast_add, Nat.cast_mul, Nat.cast_ofNat, twoCos_add_thirtyTwo_mul]

/-- For `u ≥ 1` the angle of `dctEntry` is `(2i+1)u` folded into `0..7`: it is that angle or its negative modulo 32, or, for
a negative entry, the angle these leave to 16. -/
theorem dctEntry_angle : ∀ u i : Fin 8, u.val ≠ 0 →
    ((dctEntry u i).1 = false ∧
      ((2 * i.val + 1) * u.val % 32 = (dctEntry u i).2 ∨ (2 * i.val + 1) * u.val % 32 + (dctEntry u i).2 = 32)) ∨
    ((dctEntry u i).1 = true ∧
      ((2 * i.val + 1) * u.val % 32 + (dctEntry u i).2 = 16 ∨ (2 * i.val + 1) * u.val % 32 = 16 + (dctEntry u i).2)) := by
  decide

/-- The first row of `4·A` is `√2`. -/
theorem four_mul_dctBasis_zero {u : Fin 8} (hu : u.val = 0) (i : Fin 8) : 4 * dctBasis u i = twoCos 4 := by
  have h4 : ((4 : ℤ) : ℝ) * Real.pi / 16 = Real.pi / 4 := by push_cast; ring
  have hs : 1 / Real.sqrt 2 = Real.sqrt 2 / 2 := by rw [one_div, inv_eq_one_div, Real.sqrt_div_self']
  rw [dctBasis_apply, dctScale, if_pos hu, hs, dctCos, hu, twoCos, h4, Real.cos_pi_div_four, Nat.cast_zero, mul_zero,
    zero_mul, zero_div, Real.cos_zero]
  ring

/-- The other rows of `4·A` are `2cos((2i+1)uπ/16)`, the angle modulo `2π`. -/
theorem four_mul_dctBasis_succ {u : Fin 8} (hu : u.val ≠ 0) (i : Fin 8) :
    4 * dctBasis u i = twoCos ((2 * i.val + 1) * u.val % 32 : Nat) := by
  rw [twoCos_natCast_mod, dctBasis_apply, dctScale, if_neg hu]
  push_cast
  rw [← two_mul_dctCos]
  ring

/-- The entries of `dctEntry` are those of `4·A`. -/
theorem four_mul_dctBasis (u i : Fin 8) :
    4 * dctBasis u i = if (dctEntry u i).1 then -twoCos (dctEntry u i).2 else twoCos (dctEntry u i).2 := by
  by_cases hu : u.val = 0
  · simp [four_mul_dctBasis_zero hu, dctEntry, hu]
  · rw [four_mul_dctBasis_succ hu]
    generalize hj : (2 * i.val + 1) * u.val % 32 = j
    have hangle := dctEntry_angle u i hu
    rw [hj] at hangle
    obtain ⟨hs, rfl | h⟩ | ⟨hs, h | rfl⟩ := hangle
    · simp [hs]
    · have hm : (j : ℤ) = 32 - (dctEntry u i).2 := by omega
      simp [hs, hm, twoCos_thirtyTwo_sub]
    · have hm : (j : ℤ) = 16 - (dctEntry u i).2 := by omega
      simp [hs, hm, twoCos_sixteen_sub]
    · simp [hs, twoCos_sixteen_add]

theorem toReal_dctTerm (u i : Fin 8) (x : Cyc) : (dctTerm u i x).toReal = 4 * dctBasis u i * x.toReal := by
  obtain ⟨h1, h7⟩ := dctEntry_range u i
  rw [four_mul_dctBasis]
  cases h : (dctEntry u i).1 <;> simp [dctTerm, h, Cyc.toReal_mulCos h1 h7]

/-- `fdct(X) = A·X·Aᵀ` (40_transform R122). -/
theorem realMatrix_fdct (x : Block NUM) : realMatrix (fdct x) = dctBasis * realMatrix x * dctBasisᵀ :=
  realMatrix_sandwich toReal_dctTerm x

/-- `idct(Y) = Aᵀ·Y·A` (40_transform R123). -/
theorem realMatrix_idct (y : Block NUM) : realMatrix (idct y) = dctBasisᵀ * realMatrix y * dctBasis :=
  realMatrix_sandwich (M := dctBasisᵀ) (fun i u x => toReal_dctTerm u i x) y

/-- Settles O28: each entry of the matrix product is the double sum. -/
theorem transformsAreTheRealSums : Obligations.TransformsAreTheRealSums := by
  refine ⟨fun x u v => ?_, fun y i j => ?_⟩
  · rw [← realMatrix_apply, realMatrix_fdct]
    simp only [Matrix.mul_apply, Matrix.transpose_apply, realMatrix_apply, dctBasis_apply, sum_mul, mul_sum]
    rw [sum_comm]
    exact sum_congr rfl fun i _ => sum_congr rfl fun j _ => by ring
  · rw [← realMatrix_apply, realMatrix_idct]
    simp only [Matrix.mul_apply, Matrix.transpose_apply, realMatrix_apply, dctBasis_apply, sum_mul, mul_sum]
    rw [sum_comm]
    exact sum_congr rfl fun u _ => sum_congr rfl fun v _ => by ring

end Sys2Proof.Machine

namespace Sys2Proof.Machine

open Finset Matrix

/-! ### The basis matrix is orthogonal (40_transform R127) -/

/-- The odd multiples of `mπ/16` up to `15mπ/16` have cosines that cancel: times `sin(mπ/16)` their sum telescopes to
`sin(mπ)`. -/
theorem sum_twoCos_odd {m : ℤ} (h0 : m ≠ 0) (h : |m| < 16) : ∑ i : Fin 8, twoCos ((2 * i + 1) * m) = 0 := by
  have hsin : Real.sin (m * Real.pi / 16) ≠ 0 := by
    intro hz
    obtain ⟨n, hn⟩ := Real.sin_eq_zero_iff.mp hz
    have hnm : (16 * n : ℝ) = m := by
      have := Real.pi_ne_zero
      field_simp at hn
      linarith
    have : 16 * n = m := by exact_mod_cast hnm
    rw [abs_lt] at h
    omega
  have hterm (i : ℕ) : Real.sin (m * Real.pi / 16) * twoCos ((2 * i + 1) * m) =
      Real.sin (2 * (i + 1 : ℕ) * (m * Real.pi / 16)) - Real.sin (2 * i * (m * Real.pi / 16)) := by
    rw [Real.sin_sub_sin, twoCos]
    push_cast
    ring_nf
  refine (mul_eq_zero_iff_left hsin).mp ?_
  calc Real.sin (m * Real.pi / 16) * ∑ i : Fin 8, twoCos ((2 * i + 1) * m)
      = ∑ i ∈ range 8, Real.sin (m * Real.pi / 16) * twoCos ((2 * (i : ℕ) + 1) * m) := by
        rw [mul_sum, ← Fin.sum_univ_eq_sum_range]
    _ = Real.sin (2 * (8 : ℕ) * (m * Real.pi / 16)) - Real.sin (2 * (0 : ℕ) * (m * Real.pi / 16)) := by
        simp only [hterm]
        rw [sum_range_sub fun i : ℕ => Real.sin (2 * i * (m * Real.pi / 16))]
    _ = 0 := by
        have h8 : 2 * ((8 : ℕ) : ℝ) * (m * Real.pi / 16) = m * Real.pi := by push_cast; ring
        rw [h8, Real.sin_int_mul_pi]
        simp

theorem sum_twoCos_odd_zero : ∑ i : Fin 8, twoCos ((2 * i + 1) * 0) = 16 := by
  norm_num [twoCos_zero]

/-- The product of two rows of `A`, in sums of odd cosines. -/
theorem dctBasis_mul_transpose_apply (u v : Fin 8) : (dctBasis * dctBasisᵀ) u v = dctScale u * dctScale v / 16 *
    ((∑ i : Fin 8, twoCos ((2 * i + 1) * (u + v))) + ∑ i : Fin 8, twoCos ((2 * i + 1) * (u - v))) := by
  rw [Matrix.mul_apply, ← sum_add_distrib, mul_sum]
  refine sum_congr rfl fun i _ => ?_
  have h := twoCos_mul ((2 * i + 1) * u) ((2 * i + 1) * v)
  rw [← mul_add, ← mul_sub, ← two_mul_dctCos, ← two_mul_dctCos] at h
  rw [← h, Matrix.transpose_apply, dctBasis_apply, dctBasis_apply]
  ring

/-- The rows of `A` are orthonormal. -/
theorem dctBasis_mul_transpose : dctBasis * dctBasisᵀ = 1 := by
  ext u v
  rw [dctBasis_mul_transpose_apply, Matrix.one_apply]
  by_cases huv : u = v
  · subst huv
    rw [sub_self, sum_twoCos_odd_zero, if_pos rfl]
    by_cases hu : u.val = 0
    · have hs : Real.sqrt 2 * Real.sqrt 2 = 2 := Real.mul_self_sqrt two_pos.le
      rw [hu, Nat.cast_zero, add_zero, sum_twoCos_odd_zero, dctScale, if_pos hu]
      field_simp
      linarith
    · rw [sum_twoCos_odd (by omega) (by rw [abs_lt]; omega), dctScale, if_neg hu]
      norm_num
  · have hne : (u : ℕ) ≠ v := fun h => huv (Fin.ext h)
    rw [sum_twoCos_odd (by omega) (by rw [abs_lt]; omega), sum_twoCos_odd (by omega) (by rw [abs_lt]; omega), if_neg huv]
    ring

/-- So are its columns. -/
theorem dctBasis_transpose_mul : dctBasisᵀ * dctBasis = 1 :=
  mul_eq_one_comm.mp dctBasis_mul_transpose

/-! ### Exact numbers are equal when their real numbers are (log 1) -/

/-- `e^{iπ/16}`, a primitive 32nd root of unity. -/
noncomputable def zeta32 : ℂ := Complex.exp (2 * Real.pi * Complex.I / (32 : ℕ))

/-- Its minimal polynomial over the rationals has degree `φ(32) = 16`. -/
theorem degree_minpoly_zeta32 : (minpoly ℚ zeta32).degree = 16 := by
  have hroot : IsPrimitiveRoot zeta32 32 := Complex.isPrimitiveRoot_exp 32 (by norm_num)
  have htotient : Nat.totient 32 = 16 := by decide
  rw [← Polynomial.cyclotomic_eq_minpoly_rat hroot (by norm_num), Polynomial.degree_cyclotomic, htotient]
  rfl

theorem zeta32_pow (n : ℕ) : zeta32 ^ n = Complex.exp (n * (Real.pi / 16) * Complex.I) := by
  rw [zeta32, ← Complex.exp_nat_mul]
  congr 1
  push_cast
  ring

/-- `2cos(kπ/16) = ζ^k + ζ^(-k) = ζ^k - ζ^(16-k)`. -/
theorem zeta32_pow_sub_pow {k j : ℕ} (h : k + j = 16) : zeta32 ^ k - zeta32 ^ j = twoCos k := by
  have hj : (j : ℂ) = 16 - k := by rw [eq_sub_iff_add_eq, add_comm]; exact_mod_cast h
  have hneg : -Complex.exp (j * (Real.pi / 16) * Complex.I) = Complex.exp (-(k * (Real.pi / 16)) * Complex.I) := by
    rw [← Complex.exp_sub_pi_mul_I, hj]
    ring_nf
  rw [zeta32_pow, zeta32_pow, sub_eq_add_neg, hneg, twoCos]
  push_cast
  rw [Complex.two_cos]
  ring_nf

/-- The polynomial over the rationals whose value at `ζ` is the number. -/
noncomputable def NUM.poly (x : NUM) : Polynomial ℚ :=
  .C x.c0 + .C x.c1 * (.X ^ 1 - .X ^ 15) + .C x.c2 * (.X ^ 2 - .X ^ 14) + .C x.c3 * (.X ^ 3 - .X ^ 13)
    + .C x.c4 * (.X ^ 4 - .X ^ 12) + .C x.c5 * (.X ^ 5 - .X ^ 11) + .C x.c6 * (.X ^ 6 - .X ^ 10)
    + .C x.c7 * (.X ^ 7 - .X ^ 9)

theorem NUM.aeval_poly (x : NUM) : Polynomial.aeval zeta32 x.poly = (x.toReal : ℂ) := by
  simp only [NUM.poly, map_add, map_mul, map_sub, map_pow, Polynomial.aeval_C, Polynomial.aeval_X,
    zeta32_pow_sub_pow (rfl : 1 + 15 = 16), zeta32_pow_sub_pow (rfl : 2 + 14 = 16),
    zeta32_pow_sub_pow (rfl : 3 + 13 = 16), zeta32_pow_sub_pow (rfl : 4 + 12 = 16),
    zeta32_pow_sub_pow (rfl : 5 + 11 = 16), zeta32_pow_sub_pow (rfl : 6 + 10 = 16),
    zeta32_pow_sub_pow (rfl : 7 + 9 = 16), NUM.toReal_eq]
  push_cast
  rfl

/-- Its degree is below that of the minimal polynomial, so it is zero when the number is. -/
theorem NUM.poly_eq_zero {x : NUM} (h : x.toReal = 0) : x.poly = 0 := by
  have hdvd : minpoly ℚ zeta32 ∣ x.poly := minpoly.dvd ℚ zeta32 (by rw [NUM.aeval_poly, h, Complex.ofReal_zero])
  have hdegree : x.poly.degree ≤ 15 := by
    unfold NUM.poly
    compute_degree
  refine Polynomial.eq_zero_of_dvd_of_degree_lt hdvd (hdegree.trans_lt ?_)
  rw [degree_minpoly_zeta32]
  norm_num

/-- Its coefficients up to the seventh are those of the number. -/
theorem NUM.eq_zero_of_toReal_eq_zero {x : NUM} (h : x.toReal = 0) : x = NUM.zero := by
  have hcoeff (k : ℕ) : x.poly.coeff k = 0 := by rw [NUM.poly_eq_zero h, Polynomial.coeff_zero]
  simp only [NUM.poly, Polynomial.coeff_add, Polynomial.coeff_C_mul, Polynomial.coeff_sub, Polynomial.coeff_X_pow,
    Polynomial.coeff_C] at hcoeff
  obtain ⟨c0, c1, c2, c3, c4, c5, c6, c7⟩ := x
  simp only [NUM.zero, NUM.ofRat, NUM.mk.injEq]
  exact ⟨by simpa using hcoeff 0, by simpa using hcoeff 1, by simpa using hcoeff 2, by simpa using hcoeff 3,
    by simpa using hcoeff 4, by simpa using hcoeff 5, by simpa using hcoeff 6, by simpa using hcoeff 7⟩

/-- The difference of two numbers. -/
def NUM.sub (x y : NUM) : NUM :=
  ⟨x.c0 - y.c0, x.c1 - y.c1, x.c2 - y.c2, x.c3 - y.c3, x.c4 - y.c4, x.c5 - y.c5, x.c6 - y.c6, x.c7 - y.c7⟩

theorem NUM.toReal_sub (x y : NUM) : (x.sub y).toReal = x.toReal - y.toReal := by
  simp only [NUM.toReal_eq, NUM.sub, Rat.cast_sub]
  ring

/-- The cosines are linearly independent over the rationals. -/
theorem NUM.toReal_injective : Function.Injective NUM.toReal := by
  intro x y h
  have hz : x.sub y = NUM.zero := NUM.eq_zero_of_toReal_eq_zero (by rw [NUM.toReal_sub, h, sub_self])
  obtain ⟨⟩ := x
  obtain ⟨⟩ := y
  simpa only [NUM.sub, NUM.zero, NUM.ofRat, NUM.mk.injEq, sub_eq_zero] using hz

theorem realMatrix_injective : Function.Injective realMatrix := by
  intro a b h
  exact block_ext fun i j => NUM.toReal_injective (congrFun (congrFun h i) j)

/-- Settles O29: on the real matrices `Aᵀ·A = A·Aᵀ = 1`, and blocks with the same real matrix are the same. -/
theorem transformsAreInverse : Obligations.TransformsAreInverse := by
  refine fun x => ⟨realMatrix_injective ?_, realMatrix_injective ?_⟩
  · calc realMatrix (idct (fdct x)) = (dctBasisᵀ * dctBasis) * realMatrix x * (dctBasisᵀ * dctBasis) := by
          simp only [realMatrix_idct, realMatrix_fdct, Matrix.mul_assoc]
      _ = realMatrix x := by rw [dctBasis_transpose_mul, Matrix.one_mul, Matrix.mul_one]
  · calc realMatrix (fdct (idct x)) = (dctBasis * dctBasisᵀ) * realMatrix x * (dctBasis * dctBasisᵀ) := by
          simp only [realMatrix_idct, realMatrix_fdct, Matrix.mul_assoc]
      _ = realMatrix x := by rw [dctBasis_mul_transpose, Matrix.one_mul, Matrix.mul_one]

end Sys2Proof.Machine

namespace Sys2Proof.Machine

open SignType (sign)

/-! ### The sign of an exact number (log 1) -/

/-- The real number of a surd: `2cos(4π/16)` is `√2`. -/
noncomputable def Surd2.toReal (x : Surd2) : ℝ := x.a + x.b * twoCos 4

/-- The real number of a surd: `2cos(2π/16)` is `√(2+√2)`. -/
noncomputable def Surd4.toReal (x : Surd4) : ℝ := x.a.toReal + x.b.toReal * twoCos 2

/-- The real number of a surd: `2cos(π/16)` is `√(2+√(2+√2))`. -/
noncomputable def Surd8.toReal (x : Surd8) : ℝ := x.a.toReal + x.b.toReal * twoCos 1

theorem twoCos_four_sq : twoCos 4 * twoCos 4 = 2 := by
  rw [twoCos_mul]; norm_num [twoCos_eight, twoCos_zero]

theorem twoCos_two_sq : twoCos 2 * twoCos 2 = 2 + twoCos 4 := by
  rw [twoCos_mul]; norm_num [twoCos_zero, add_comm]

theorem twoCos_one_sq : twoCos 1 * twoCos 1 = 2 + twoCos 2 := by
  rw [twoCos_mul]; norm_num [twoCos_zero, add_comm]

@[simp] theorem Surd2.toReal_add (x y : Surd2) : (x.add y).toReal = x.toReal + y.toReal := by
  simp only [Surd2.toReal, Surd2.add, Int.cast_add]; ring

@[simp] theorem Surd2.toReal_sub (x y : Surd2) : (x.sub y).toReal = x.toReal - y.toReal := by
  simp only [Surd2.toReal, Surd2.sub, Int.cast_sub]; ring

@[simp] theorem Surd2.toReal_mul (x y : Surd2) : (x.mul y).toReal = x.toReal * y.toReal := by
  simp only [Surd2.toReal, Surd2.mul]
  push_cast
  linear_combination -(x.b * y.b : ℝ) * twoCos_four_sq

@[simp] theorem Surd2.toReal_mulRadicand (x : Surd2) : x.mulRadicand.toReal = x.toReal * (2 + twoCos 4) := by
  simp only [Surd2.toReal, Surd2.mulRadicand]
  push_cast
  linear_combination -(x.b : ℝ) * twoCos_four_sq

@[simp] theorem Surd4.toReal_sub (x y : Surd4) : (x.sub y).toReal = x.toReal - y.toReal := by
  simp only [Surd4.toReal, Surd4.sub, Surd2.toReal_sub]; ring

@[simp] theorem Surd4.toReal_mul (x y : Surd4) : (x.mul y).toReal = x.toReal * y.toReal := by
  simp only [Surd4.toReal, Surd4.mul, Surd2.toReal_add, Surd2.toReal_mul, Surd2.toReal_mulRadicand]
  linear_combination -(x.b.toReal * y.b.toReal) * twoCos_two_sq

@[simp] theorem Surd4.toReal_mulRadicand (x : Surd4) : x.mulRadicand.toReal = x.toReal * (2 + twoCos 2) := by
  simp only [Surd4.toReal, Surd4.mulRadicand, Surd2.toReal_add, Surd2.toReal_mulRadicand]
  linear_combination -x.b.toReal * twoCos_two_sq

/-- `surdSign` is the sign of `a + b·r`: where `a` and `b` have opposite signs, that of `a² - b²r² = (a + b·r)(a - b·r)`
and of `a - b·r`, which is that of `a`. -/
theorem surdSign_eq_sign {a b r : ℝ} (hr : 0 < r) :
    surdSign (sign a) (sign b) (sign ((a + b * r) * (a - b * r))) = sign (a + b * r) := by
  unfold surdSign
  rcases lt_trichotomy a 0 with ha | rfl | ha
  · rcases lt_trichotomy b 0 with hb | rfl | hb
    · have h : a + b * r < 0 := by nlinarith
      simp [sign_neg ha, sign_neg hb, sign_neg h]
    · simp [sign_neg ha]
    · have h : a - b * r < 0 := by nlinarith
      simp [sign_mul, sign_neg ha, sign_pos hb, sign_neg h]
  · simp [sign_mul, sign_pos hr]
  · rcases lt_trichotomy b 0 with hb | rfl | hb
    · have h : 0 < a - b * r := by nlinarith
      simp [sign_mul, sign_pos ha, sign_neg hb, sign_pos h]
    · simp [sign_pos ha]
    · have h : 0 < a + b * r := by nlinarith
      simp [sign_pos ha, sign_pos hb, sign_pos h]

theorem int_sign_eq (n : ℤ) : n.sign = sign (n : ℝ) := by
  rw [sign_intCast, Int.sign_eq_sign]

theorem Surd2.sign_eq (x : Surd2) : x.sign = SignType.sign x.toReal := by
  have h : ((x.a * x.a - 2 * (x.b * x.b) : ℤ) : ℝ) = (x.a + x.b * twoCos 4) * (x.a - x.b * twoCos 4) := by
    push_cast
    linear_combination (x.b * x.b : ℝ) * twoCos_four_sq
  rw [Surd2.sign, int_sign_eq, int_sign_eq, int_sign_eq, h, surdSign_eq_sign (twoCos_pos (by norm_num) (by norm_num)),
    Surd2.toReal]

theorem Surd4.sign_eq (x : Surd4) : x.sign = SignType.sign x.toReal := by
  have h : ((x.a.mul x.a).sub (x.b.mul x.b).mulRadicand).toReal =
      (x.a.toReal + x.b.toReal * twoCos 2) * (x.a.toReal - x.b.toReal * twoCos 2) := by
    simp only [Surd2.toReal_sub, Surd2.toReal_mul, Surd2.toReal_mulRadicand]
    linear_combination (x.b.toReal * x.b.toReal) * twoCos_two_sq
  rw [Surd4.sign, Surd2.sign_eq, Surd2.sign_eq, Surd2.sign_eq, h,
    surdSign_eq_sign (twoCos_pos (by norm_num) (by norm_num)), Surd4.toReal]

theorem Surd8.sign_eq (x : Surd8) : x.sign = SignType.sign x.toReal := by
  have h : ((x.a.mul x.a).sub (x.b.mul x.b).mulRadicand).toReal =
      (x.a.toReal + x.b.toReal * twoCos 1) * (x.a.toReal - x.b.toReal * twoCos 1) := by
    simp only [Surd4.toReal_sub, Surd4.toReal_mul, Surd4.toReal_mulRadicand]
    linear_combination (x.b.toReal * x.b.toReal) * twoCos_one_sq
  rw [Surd8.sign, Surd4.sign_eq, Surd4.sign_eq, Surd4.sign_eq, h,
    surdSign_eq_sign (twoCos_pos (by norm_num) (by norm_num)), Surd8.toReal]

theorem Cyc.toReal_surds (x : Cyc) : x.surds.toReal = x.toReal := by
  have h3 := twoCos_mul 2 1
  have h5 := twoCos_mul 4 1
  have h6 := twoCos_mul 4 2
  have h7 := twoCos_mul 4 3
  norm_num at h3 h5 h6 h7
  simp only [Surd8.toReal, Surd4.toReal, Surd2.toReal, Cyc.surds, Cyc.toReal]
  push_cast
  linear_combination (x.n3 : ℝ) * h3 + x.n5 * (h5 - h3) + x.n6 * h6 + x.n7 * (twoCos 4 * h3 + h7)

/-- `compareInt` is the sign of the difference. -/
theorem Cyc.compareInt_eq (x : Cyc) (n : ℤ) : x.compareInt n = sign (x.toReal - n) := by
  rw [Cyc.compareInt, Surd8.sign_eq, Cyc.toReal_surds]
  congr 2
  simp only [Cyc.toReal]
  push_cast
  ring

theorem sign_cast_neg_iff (x : ℝ) : (sign x : ℤ) < 0 ↔ x < 0 := by
  have h : ∀ s : SignType, (s : ℤ) < 0 ↔ s = -1 := by decide
  rw [h, sign_eq_neg_one_iff]

theorem sign_cast_pos_iff (x : ℝ) : 0 < (sign x : ℤ) ↔ 0 < x := by
  have h : ∀ s : SignType, 0 < (s : ℤ) ↔ s = 1 := by decide
  rw [h, sign_eq_one_iff]

/-! ### The integer part and rounding (00_scope R11, 41_quantizer R143) -/

theorem abs_twoCos_le (m : ℤ) : |twoCos m| ≤ 2 := by
  rw [twoCos, abs_mul, abs_two]
  linarith [Real.abs_cos_le_one (m * Real.pi / 16)]

theorem Cyc.abs_toReal_lt_bound (x : Cyc) : |x.toReal| < x.bound := by
  have hterm (n m : ℤ) : -(2 * |(n : ℝ)|) ≤ n * twoCos m ∧ n * twoCos m ≤ 2 * |(n : ℝ)| := by
    rw [← abs_le, abs_mul, mul_comm 2]
    exact mul_le_mul_of_nonneg_left (abs_twoCos_le m) (abs_nonneg _)
  have h0 := abs_le.mp (le_refl |(x.n0 : ℝ)|)
  have h1 := hterm x.n1 1
  have h2 := hterm x.n2 2
  have h3 := hterm x.n3 3
  have h4 := hterm x.n4 4
  have h5 := hterm x.n5 5
  have h6 := hterm x.n6 6
  have h7 := hterm x.n7 7
  rw [abs_lt]
  simp only [Cyc.bound, Cyc.toReal]
  push_cast [Nat.cast_natAbs]
  constructor <;> linarith

/-- Halving finds the largest integer of the range that satisfies a condition true exactly up to it. -/
theorem searchFloor_eq {ge : ℤ → Bool} {n : ℤ} (hge : ∀ k, ge k = true ↔ k ≤ n) (k : ℕ) (lo : ℤ) (hlo : lo ≤ n)
    (hhi : n < lo + 2 ^ k) : searchFloor ge k lo = n := by
  induction k generalizing lo with
  | zero => rw [searchFloor]; omega
  | succ k ih =>
    rw [searchFloor]
    rw [pow_succ] at hhi
    split
    · next h => exact ih _ ((hge _).mp h) (by omega)
    · next h => exact ih _ hlo (by rw [hge] at h; omega)

/-- The search of `floorDiv` starts below the quotient and its range reaches above it. -/
theorem Cyc.abs_toReal_div_lt (x : Cyc) {d : ℕ} (hd : 0 < d) :
    |x.toReal / d| < 2 ^ (Nat.log2 (x.bound / d + 1) + 1) := by
  have hd' : (0 : ℝ) < d := Nat.cast_pos.mpr hd
  have hbound : (x.bound : ℝ) < d * (x.bound / d + 1 : ℕ) := by exact_mod_cast Nat.lt_mul_div_succ x.bound hd
  have hlog : ((x.bound / d + 1 : ℕ) : ℝ) < 2 ^ (Nat.log2 (x.bound / d + 1) + 1) := by
    exact_mod_cast Nat.lt_log2_self
  rw [abs_div, Nat.abs_cast, div_lt_iff₀' hd']
  calc |x.toReal| < x.bound := x.abs_toReal_lt_bound
    _ < d * (x.bound / d + 1 : ℕ) := hbound
    _ < d * 2 ^ (Nat.log2 (x.bound / d + 1) + 1) := by gcongr

theorem Cyc.floorDiv_eq (x : Cyc) {d : ℕ} (hd : 0 < d) : x.floorDiv d = ⌊x.toReal / d⌋ := by
  have hd' : (0 : ℝ) < d := Nat.cast_pos.mpr hd
  obtain ⟨hlow, hhigh⟩ := abs_lt.mp (x.abs_toReal_div_lt hd)
  refine searchFloor_eq (fun k => ?_) _ _ (Int.le_floor.mpr ?_) (Int.floor_lt.mpr ?_)
  · rw [decide_eq_true_iff, ← not_lt, Cyc.compareInt_eq, sign_cast_neg_iff, sub_neg, not_lt, Int.le_floor, le_div_iff₀ hd']
    push_cast
    rfl
  · push_cast
    exact hlow.le
  · push_cast
    linarith [pow_succ (2 : ℝ) (Nat.log2 (x.bound / d + 1) + 1)]

/-- The integer part both `floor` and `round` compute is that of the real number. -/
theorem NUM.floorDiv_times (x : NUM) : (x.times x.den).floorDiv x.den = ⌊x.toReal⌋ := by
  have hd : (x.den : ℝ) ≠ 0 := Nat.cast_ne_zero.mpr x.den_pos.ne'
  rw [Cyc.floorDiv_eq _ x.den_pos, NUM.toReal_times (dvd_refl _), mul_div_cancel_left₀ _ hd]

/-- The comparison `round` makes, with the middle between two integers. -/
theorem NUM.compareInt_half (x : NUM) (n : ℤ) :
    ((x.times x.den).scale 2).compareInt ((2 * n + 1) * x.den) = sign (x.toReal - n - 1 / 2) := by
  have hd : (0 : ℝ) < 2 * x.den := mul_pos two_pos (Nat.cast_pos.mpr x.den_pos)
  have h : ((x.times x.den).scale 2).toReal - ((2 * n + 1) * x.den : ℤ) = 2 * x.den * (x.toReal - n - 1 / 2) := by
    rw [Cyc.toReal_scale, NUM.toReal_times (dvd_refl _)]
    push_cast
    ring
  rw [Cyc.compareInt_eq, h, sign_mul, sign_pos hd, one_mul]

/-- `round` is that of the real number (41_quantizer R143). -/
theorem NUM.round_eq_realRound (r : QRound) (x : NUM) : x.round r = realRound r x.toReal := by
  cases r <;>
    simp only [NUM.round, NUM.floorDiv_times, NUM.compareInt_half, sign_cast_neg_iff, sign_cast_pos_iff, sub_neg,
      sub_pos, realRound]

end Sys2Proof.Machine

namespace Sys2Proof.Machine

/-! ### The same rule over another number type (00_scope R10, 40_transform R130) -/

/-- The effect over another number type: the same fault, or the state carried over. -/
def Effect.mapNum {ν μ : Type} (f : ν → μ) (e : Effect ν) : Effect μ :=
  e.map (CoreState.mapNum f)

/-- `f` carries the arithmetic of one number system over to that of another. -/
structure NumSystem.Carries {ν μ : Type} (f : ν → μ) (n : NumSystem ν) (m : NumSystem μ) : Prop where
  fdct (b : Block ν) : m.fdct (b.map f) = (n.fdct b).map f
  idct (b : Block ν) : m.idct (b.map f) = (n.idct b).map f
  quantize (r : QRound) (d : ℚ) (x : ν) : m.quantize r d (f x) = n.quantize r d x
  dequantize (d : ℚ) (k : Int) : m.dequantize d k = f (n.dequantize d k)

/-- `f` carries one rule over to the other: the second does to the carried state what the first does. -/
def RuleCarries {ν μ : Type} (f : ν → μ) (rule : CoreState ν → Effect ν) (rule' : CoreState μ → Effect μ) : Prop :=
  ∀ s, rule' (s.mapNum f) = (rule s).mapNum f

section

variable {ν μ : Type} (f : ν → μ)

@[simp] theorem Effect.mapNum_ok (s : CoreState ν) : Effect.mapNum f (.ok s) = .ok (s.mapNum f) := rfl

@[simp] theorem Effect.mapNum_error (r : Raise) : Effect.mapNum f (.error r) = .error r := rfl

@[simp] theorem checkLimit_mapNum (c : Limit) (b : Bool) (s : CoreState ν) :
    checkLimit c b (s.mapNum f) = (checkLimit c b s).mapNum f := by
  cases b <;> rfl

@[simp] theorem writeXb_mapNum (b : Block ν) (s : CoreState ν) :
    writeXb (b.map f) (s.mapNum f) = (writeXb b s).mapNum f := rfl
@[simp] theorem writeQb_mapNum (b : Block Int) (s : CoreState ν) :
    writeQb b (s.mapNum f) = (writeQb b s).mapNum f := rfl
@[simp] theorem writeZq_mapNum (z : Vector Int 64) (s : CoreState ν) :
    writeZq z (s.mapNum f) = (writeZq z s).mapNum f := rfl
@[simp] theorem writeZq0_mapNum (v : Int) (s : CoreState ν) :
    writeZq0 v (s.mapNum f) = (writeZq0 v s).mapNum f := rfl
@[simp] theorem writeZqAc_mapNum (ac : List Int) (s : CoreState ν) :
    writeZqAc ac (s.mapNum f) = (writeZqAc ac s).mapNum f := rfl
@[simp] theorem writeDiff_mapNum (v : Int) (s : CoreState ν) :
    writeDiff v (s.mapNum f) = (writeDiff v s).mapNum f := rfl
@[simp] theorem writeRl_mapNum (l : List Pair) (s : CoreState ν) :
    writeRl l (s.mapNum f) = (writeRl l s).mapNum f := rfl

@[simp] theorem setPred_mapNum (l : Layer) (v : Int) (s : CoreState ν) :
    setPred l v (s.mapNum f) = (setPred l v s).mapNum f := by
  cases l <;> rfl

variable {f}

theorem RuleCarries.commandStep {rule : CoreState ν → Effect ν} {rule' : CoreState μ → Effect μ}
    (h : RuleCarries f rule rule') (s : CoreState ν) :
    commandStep rule' (s.mapNum f) = (commandStep rule s).mapNum f := by
  cases hf : s.faulted with
  | true =>
    rw [commandStep_faulted rule s hf, commandStep_faulted rule' _ hf]
    rfl
  | false =>
    have hr : rule' (countCommand (s.mapNum f)) = (rule (countCommand s)).mapNum f := h (countCommand s)
    cases hs : rule (countCommand s) with
    | ok t =>
      rw [hs] at hr
      rw [commandStep_ok rule s t hf hs, commandStep_ok rule' _ _ hf hr]
    | error r =>
      rw [hs] at hr
      rw [commandStep_error rule s r hf hs, commandStep_error rule' _ r hf hr]
      rfl

theorem Effect.andThen_mapNum (e : Effect ν) {rule : CoreState ν → Effect ν} {rule' : CoreState μ → Effect μ}
    (h : RuleCarries f rule rule') : andThen (e.mapNum f) rule' = (andThen e rule).mapNum f := by
  cases e with
  | ok s => exact h s
  | error r => rfl

theorem ruleCfgq_carries (q : Nat) : RuleCarries f (ruleCfgq q) (ruleCfgq q) := by
  intro s; unfold ruleCfgq; split <;> rfl

theorem ruleLdx_nil {s : CoreState ν} (h : s.xin = []) : ruleLdx s = .error (seqFault 0x0800) := by
  rw [ruleLdx, h]

theorem ruleLdx_cons {s : CoreState ν} {b : Block ν} {rest : List (Block ν)} (h : s.xin = b :: rest) :
    ruleLdx s = .ok { writeXb b s with xin := rest } := by
  rw [ruleLdx, h]

theorem ruleLdx_carries : RuleCarries f ruleLdx ruleLdx := by
  intro s
  cases h : s.xin with
  | nil =>
    have hx : (s.mapNum f).xin = [] := congrArg (List.map _) h
    rw [ruleLdx_nil h, ruleLdx_nil hx, Effect.mapNum_error]
  | cons b rest =>
    have hx : (s.mapNum f).xin = b.map f :: rest.map fun b => b.map f := congrArg (List.map _) h
    rw [ruleLdx_cons h, ruleLdx_cons hx]
    rfl

theorem ruleStx_carries : RuleCarries f ruleStx ruleStx := by
  intro s
  rw [ruleStx, ruleStx, mapNum_vx]
  split
  · simp [CoreState.mapNum]
  · rfl

variable {n : NumSystem ν} {m : NumSystem μ} (h : n.Carries f m) (p : Params) (l : Layer)

theorem ruleZz_carries : RuleCarries f ruleZz ruleZz := by
  intro s; rw [ruleZz, ruleZz, mapNum_vq]; split <;> simp

theorem ruleIzz_carries : RuleCarries f ruleIzz ruleIzz := by
  intro s; rw [ruleIzz, ruleIzz, mapNum_vz0, mapNum_vza]; split <;> simp

theorem ruleDce_carries : RuleCarries f (ruleDce p l) (ruleDce p l) := by
  intro s
  rw [ruleDce, ruleDce, mapNum_layerBlocked, mapNum_vz0, mapNum_zq, mapNum_predOf]
  split_ifs <;> simp

theorem ruleDcd_carries : RuleCarries f (ruleDcd p l) (ruleDcd p l) := by
  intro s
  rw [ruleDcd, ruleDcd, mapNum_layerBlocked, mapNum_vd, mapNum_diff, mapNum_predOf]
  split_ifs <;> simp

theorem ruleRle_carries : RuleCarries f ruleRle ruleRle := by
  intro s; rw [ruleRle, ruleRle, mapNum_vza]; split <;> simp

theorem ruleRld_carries : RuleCarries f ruleRld ruleRld := by
  intro s
  rw [ruleRld, ruleRld, mapNum_vr, mapNum_rl]
  split
  · split
    · simp
    · split <;> simp
  · simp

theorem appendBits_mapNum (k : Fin 4) (b : Bits) (s : CoreState ν) :
    appendBits p k b (s.mapNum f) = (appendBits p k b s).mapNum f :=
  checkLimit_mapNum f _ _ { s with mem := s.mem.append k b }

theorem ruleHedc_carries : RuleCarries f (ruleHedc p l) (ruleHedc p l) := by
  intro s
  rw [ruleHedc, ruleHedc, mapNum_layerBlocked, mapNum_vd, mapNum_diff]
  split_ifs
  · rfl
  · split
    · exact appendBits_mapNum p _ _ s
    · rfl
  · rfl
  · rfl

theorem ruleHeac_carries : RuleCarries f (ruleHeac p l) (ruleHeac p l) := by
  intro s
  rw [ruleHeac, ruleHeac, mapNum_layerBlocked, mapNum_vr, mapNum_rl]
  split_ifs
  · rfl
  · split
    · exact appendBits_mapNum p _ _ s
    · rfl
  · rfl

theorem takeDc_carries (y : Symbol) (k : Nat) : RuleCarries f (takeDc p l y k) (takeDc p l y k) :=
  fun s => checkLimit_mapNum f _ _ (writeDiff _ { s with mem := _ })

theorem commitAc_carries (r : Except Raise (List Pair × Nat)) : RuleCarries f (commitAc p l r) (commitAc p l r) := by
  intro s
  cases r with
  | error e => rfl
  | ok r => exact checkLimit_mapNum f _ _ (writeRl _ { s with mem := _ })

theorem ruleHddc_carries : RuleCarries f (ruleHddc p l) (ruleHddc p l) := by
  intro s
  rw [ruleHddc, ruleHddc, mapNum_layerBlocked, mapNum_mem]
  split
  · rfl
  · split
    · rfl
    · exact takeDc_carries p l _ _ s

theorem ruleHdac_carries : RuleCarries f (ruleHdac p l) (ruleHdac p l) := by
  intro s
  rw [ruleHdac, ruleHdac, mapNum_layerBlocked, mapNum_mem]
  split
  · rfl
  · exact commitAc_carries p l _ s

theorem symbolRule_carries (y : Symbol) : RuleCarries f (symbolRule p y) (symbolRule p y) := by
  intro s
  cases hy : y.type with
  | dc =>
    simp only [symbolRule, hy]
    rw [ruleDcSymbol, ruleDcSymbol, mapNum_layerBlocked, mapNum_mem]
    split_ifs
    · rfl
    · rfl
    · exact takeDc_carries p _ _ _ s
  | ac =>
    simp only [symbolRule, hy]
    rw [ruleAcSymbol, ruleAcSymbol, mapNum_layerBlocked, mapNum_mem]
    split_ifs
    · rfl
    · rfl
    · exact commitAc_carries p _ _ s

theorem ruleSlice_carries : RuleCarries f (ruleSlice p) (ruleSlice p) := by
  intro s
  rw [ruleSlice, ruleSlice, mapNum_bin, mapNum_nseg]
  split
  · rfl
  · split
    · rfl
    · rw [← checkLimit_mapNum]; rfl

include h

theorem ruleFdct_carries : RuleCarries f (ruleFdct n) (ruleFdct m) := by
  intro s
  rw [ruleFdct, ruleFdct, mapNum_vx, mapNum_xb, h.fdct]
  split <;> simp

theorem ruleIdct_carries : RuleCarries f (ruleIdct n) (ruleIdct m) := by
  intro s
  rw [ruleIdct, ruleIdct, mapNum_vx, mapNum_xb, h.idct]
  split <;> simp

theorem quantize_map (q : Nat) (x : Block ν) : quantize p m l q (x.map f) = quantize p n l q x := by
  simp [quantize, h.quantize]

theorem dequantize_map (q : Nat) (b : Block Int) : dequantize p m l q b = (dequantize p n l q b).map f := by
  ext; simp [dequantize, h.dequantize]

theorem ruleQnt_carries : RuleCarries f (ruleQnt p n l) (ruleQnt p m l) := by
  intro s
  rw [ruleQnt, ruleQnt, mapNum_layerBlocked, mapNum_quality, mapNum_vx, mapNum_xb, quantize_map h]
  split_ifs <;> simp

theorem ruleDqt_carries : RuleCarries f (ruleDqt p n l) (ruleDqt p m l) := by
  intro s
  rw [ruleDqt, ruleDqt, mapNum_layerBlocked, mapNum_quality, mapNum_vq, mapNum_qb, dequantize_map h]
  split_ifs <;> simp

theorem ruleEncblk_carries : RuleCarries f (ruleEncblk p n l) (ruleEncblk p m l) := by
  intro s
  rw [ruleEncblk, ruleEncblk, mapNum_layerBlocked, mapNum_quality, mapNum_xin, List.isEmpty_map]
  split_ifs
  · rfl
  · rfl
  · rfl
  · rw [encodeChain, ruleLdx_carries, Effect.andThen_mapNum _ (ruleFdct_carries h),
      Effect.andThen_mapNum _ (ruleQnt_carries h p l), Effect.andThen_mapNum _ ruleZz_carries,
      Effect.andThen_mapNum _ (ruleDce_carries p l), Effect.andThen_mapNum _ (ruleHedc_carries p l),
      Effect.andThen_mapNum _ ruleRle_carries, Effect.andThen_mapNum _ (ruleHeac_carries p l), encodeChain]

theorem ruleDecblk_carries : RuleCarries f (ruleDecblk p n l) (ruleDecblk p m l) := by
  intro s
  rw [ruleDecblk, ruleDecblk, mapNum_layerBlocked, mapNum_quality]
  split_ifs
  · rfl
  · rfl
  · rw [decodeChain, ruleHddc_carries, Effect.andThen_mapNum _ (ruleDcd_carries p l),
      Effect.andThen_mapNum _ (ruleHdac_carries p l), Effect.andThen_mapNum _ ruleRld_carries,
      Effect.andThen_mapNum _ ruleIzz_carries, Effect.andThen_mapNum _ (ruleDqt_carries h p l),
      Effect.andThen_mapNum _ (ruleIdct_carries h), Effect.andThen_mapNum _ ruleStx_carries, decodeChain]

/-- Every command with a rule over one number system has one over the other, and the first is carried over to it. -/
theorem commandRule?_carries {i : Instr} {rule : CoreState ν → Effect ν} (hi : commandRule? p n i = some rule) :
    ∃ rule', commandRule? p m i = some rule' ∧ RuleCarries f rule rule' := by
  unfold commandRule? at hi
  split at hi <;> cases hi
  · exact ⟨_, rfl, fun _ => rfl⟩
  · exact ⟨_, rfl, ruleCfgq_carries _⟩
  · exact ⟨_, rfl, fun _ => rfl⟩
  · exact ⟨_, rfl, ruleLdx_carries⟩
  · exact ⟨_, rfl, ruleStx_carries⟩
  · exact ⟨_, rfl, ruleFdct_carries h⟩
  · exact ⟨_, rfl, ruleIdct_carries h⟩
  · exact ⟨_, rfl, ruleQnt_carries h p _⟩
  · exact ⟨_, rfl, ruleDqt_carries h p _⟩
  · exact ⟨_, rfl, ruleZz_carries⟩
  · exact ⟨_, rfl, ruleIzz_carries⟩
  · exact ⟨_, rfl, ruleDce_carries p _⟩
  · exact ⟨_, rfl, ruleDcd_carries p _⟩
  · exact ⟨_, rfl, ruleRle_carries⟩
  · exact ⟨_, rfl, ruleRld_carries⟩
  · exact ⟨_, rfl, ruleHedc_carries p _⟩
  · exact ⟨_, rfl, ruleHeac_carries p _⟩
  · exact ⟨_, rfl, ruleHddc_carries p _⟩
  · exact ⟨_, rfl, ruleHdac_carries p _⟩
  · exact ⟨_, rfl, fun _ => rfl⟩
  · exact ⟨_, rfl, ruleSlice_carries p⟩
  · exact ⟨_, rfl, ruleEncblk_carries h p _⟩
  · exact ⟨_, rfl, ruleDecblk_carries h p _⟩

/-- The CORE over one number system does to the carried state what the CORE over the other does. -/
theorem coreExec_mapNum (i : Instr) (s : CoreState ν) :
    coreExec p m i (s.mapNum f) = (coreExec p n i s).mapNum f := by
  cases hy : i.symbol? with
  | some y =>
    rw [coreExec_symbol hy, coreExec_symbol hy]
    exact (symbolRule_carries p y).commandStep s
  | none =>
    cases hr : commandRule? p n i with
    | some rule =>
      obtain ⟨rule', hr', hcarries⟩ := commandRule?_carries h p hr
      rw [coreExec_command hy hr, coreExec_command hy hr']
      exact hcarries.commandStep s
    | none =>
      have hi : i = .clr := by
        by_contra hne
        obtain ⟨rule, -, hc | ⟨y, hy', -⟩⟩ := rule_of_ne_clr p n i hne
        · simp [hr] at hc
        · simp [hy] at hy'
      subst hi
      rfl

end

/-! ### The exact numbers and the real numbers (log 1) -/

theorem toReal_fdct (x : Block NUM) : realFdct (x.map NUM.toReal) = (fdct x).map NUM.toReal :=
  block_ext fun u v => by simp only [realFdct, blockAt_blockOf, blockAt_map, transformsAreTheRealSums.1]

theorem toReal_idct (y : Block NUM) : realIdct (y.map NUM.toReal) = (idct y).map NUM.toReal :=
  block_ext fun i j => by simp only [realIdct, blockAt_blockOf, blockAt_map, transformsAreTheRealSums.2]

/-- The exact arithmetic is that of the real numbers. -/
theorem exactSystem_carries : exactSystem.Carries NUM.toReal realSystem where
  fdct := toReal_fdct
  idct := toReal_idct
  quantize r d x := by
    simp only [exactSystem, realSystem, NUM.round_eq_realRound, NUM.toReal_scale]
    congr 1
    push_cast
    ring
  dequantize d k := by simp [exactSystem, realSystem]

/-- Settles O35: `exec` is the CORE on the exact numbers, which is carried over to the CORE on the real numbers. -/
theorem exactMachineIsRealMachine : Obligations.ExactMachineIsRealMachine :=
  fun i s => ⟨_, exec_eq_coreExec i s, coreExec_mapNum exactSystem_carries s.params i s.toCoreState⟩

/-! ### The transform commands (40_transform R124, R125) -/

theorem writeXb_of_vx {ν : Type} {s : CoreState ν} (h : s.vx = true) (b : Block ν) :
    writeXb b s = { s with xb := b } := by
  rw [writeXb, ← h]

section

variable {ν : Type} (n : NumSystem ν) {s : CoreState ν}

theorem ruleFdct_of_vx (h : s.vx = true) : ruleFdct n s = .ok { s with xb := n.fdct s.xb } := by
  rw [ruleFdct, if_pos h, writeXb_of_vx h]

theorem ruleFdct_of_not_vx (h : s.vx = false) : ruleFdct n s = .error (seqFault 0x1000) := by
  simp [ruleFdct, h]

theorem ruleIdct_of_vx (h : s.vx = true) : ruleIdct n s = .ok { s with xb := n.idct s.xb } := by
  rw [ruleIdct, if_pos h, writeXb_of_vx h]

theorem ruleIdct_of_not_vx (h : s.vx = false) : ruleIdct n s = .error (seqFault 0x1100) := by
  simp [ruleIdct, h]

end

/-- Settles O27: with `VX` set the rule writes `XB` and `VX` stays set, else it raises `E_SEQ`. -/
theorem transformCommands : Obligations.TransformCommands :=
  ⟨fun s hf hv => runCommand_ok _ s _ hf (ruleFdct_of_vx exactSystem hv),
    fun s hf hv => runCommand_error _ s _ hf (ruleFdct_of_not_vx exactSystem hv),
    fun s hf hv => runCommand_ok _ s _ hf (ruleIdct_of_vx exactSystem hv),
    fun s hf hv => runCommand_error _ s _ hf (ruleIdct_of_not_vx exactSystem hv)⟩

end Sys2Proof.Machine

namespace Sys2Proof.Machine

/-! ### Rounding of a real number (41_quantizer R143) -/

section

variable (r : QRound) {x : ℝ}

/-- Off a tie `round` answers an integer nearer than 1/2. -/
theorem abs_sub_realRound_lt (h : x - ⌊x⌋ ≠ 1 / 2) : |x - realRound r x| < 1 / 2 := by
  have hlow := Int.floor_le x
  have hhigh := Int.lt_floor_add_one x
  rcases lt_or_gt_of_ne h with h | h
  · simp only [realRound, if_pos h, abs_lt]
    constructor <;> linarith
  · simp only [realRound, if_neg h.not_gt, if_pos h, abs_lt]
    push_cast
    constructor <;> linarith

/-- `round` answers one of the two neighbours. -/
theorem realRound_eq_floor_or_succ (x : ℝ) : realRound r x = ⌊x⌋ ∨ realRound r x = ⌊x⌋ + 1 := by
  cases r <;> simp only [realRound] <;> split_ifs <;> simp

/-- Both neighbours of a tie are at distance 1/2. -/
theorem abs_sub_realRound_of_tie (h : x - ⌊x⌋ = 1 / 2) : |x - realRound r x| = 1 / 2 := by
  have hsucc : x - (⌊x⌋ + 1 : ℤ) = -(1 / 2) := by push_cast; linarith
  rcases realRound_eq_floor_or_succ r x with hr | hr
  · rw [hr, h, abs_of_pos one_half_pos]
  · rw [hr, hsucc, abs_neg, abs_of_pos one_half_pos]

/-- `half_even` answers the even neighbour of a tie. -/
theorem even_realRound_halfEven (h : x - ⌊x⌋ = 1 / 2) : Even (realRound .halfEven x) := by
  simp only [realRound, if_neg h.not_lt, if_neg h.not_gt, Int.even_iff]
  split_ifs <;> omega

/-- `half_away` answers the neighbour of a tie on the far side of zero. -/
theorem abs_lt_abs_realRound_halfAway (h : x - ⌊x⌋ = 1 / 2) : |x| < |(realRound .halfAway x : ℝ)| := by
  simp only [realRound, if_neg h.not_lt, if_neg h.not_gt]
  split_ifs with hn
  · have hn' : (⌊x⌋ : ℝ) ≤ -1 := by exact_mod_cast Int.le_sub_one_of_lt hn
    rw [abs_of_neg (by linarith), abs_of_neg (by linarith)]
    linarith
  · have hn' : (0 : ℝ) ≤ ⌊x⌋ := by exact_mod_cast not_lt.mp hn
    push_cast
    rw [abs_of_pos (by linarith), abs_of_pos (by linarith)]
    linarith

/-- An integer is its own rounding. -/
@[simp] theorem realRound_intCast (n : ℤ) : realRound r n = n := by
  simp [realRound]

end

/-- Settles O32: the exact rounding is that of the real number, which is nearer than 1/2 off a tie. -/
theorem roundIsNearestInteger : Obligations.RoundIsNearestInteger := by
  intro r x
  rw [NUM.round_eq_realRound]
  by_cases h : x.toReal - ⌊x.toReal⌋ = 1 / 2
  · refine ⟨(abs_sub_realRound_of_tie r h).le, fun _ => ?_⟩
    cases r with
    | halfEven => exact even_realRound_halfEven h
    | halfAway => exact abs_lt_abs_realRound_halfAway h
  · have hlt := abs_sub_realRound_lt r h
    exact ⟨hlt.le, fun heq => absurd heq hlt.ne⟩

/-! ### The scaled table (41_quantizer R140 to R142, R144) -/

theorem QTables.at_pos {t : QTables} (h : t.valid = true) (l : Layer) (k : Fin 64) : 0 < t.at l k := by
  simp only [QTables.valid, Bool.and_eq_true, List.all_eq_true, decide_eq_true_eq, Vector.mem_toList_iff] at h
  cases l with
  | lum => exact h.1 _ (Vector.getElem_mem _)
  | chr => exact h.2 _ (Vector.getElem_mem _)

theorem factor_pos {q : Nat} (hlow : 1 ≤ q) (hhigh : q ≤ 95) : 0 < factor q := by
  have hlow' : (1 : ℚ) ≤ q := by exact_mod_cast hlow
  have hhigh' : (q : ℚ) ≤ 95 := by exact_mod_cast hhigh
  rw [factor]
  split_ifs
  · positivity
  · linarith

theorem scaleAt_pos {t : QTables} (ht : t.valid = true) (l : Layer) {q : Nat} (hlow : 1 ≤ q) (hhigh : q ≤ 95)
    (k : Fin 64) : 0 < scaleAt t l q k := by
  have hfactor := factor_pos hlow hhigh
  have hentry : (0 : ℚ) < t.at l k := by exact_mod_cast QTables.at_pos ht l k
  rw [scaleAt]
  positivity

/-- The exact quotient by a rational is the real one. -/
theorem NUM.toReal_scale_one_div (d : ℚ) (x : NUM) : (NUM.scale (1 / d) x).toReal = x.toReal / d := by
  rw [NUM.toReal_scale]
  push_cast
  ring

/-- Settles O33: a table entry and the factor are positive, and the exact operations with a rational are the real ones. -/
theorem scaledTableIsPositive : Obligations.ScaledTableIsPositive :=
  fun t l q k ht hlow hhigh => ⟨scaleAt_pos ht l hlow hhigh k, rfl, NUM.toReal_scale_one_div _,
    fun n => by rw [NUM.toReal_ofRat]; push_cast; rfl⟩

/-! ### Quantizing what was dequantized (41_quantizer R149) -/

/-- The real quotient of the real product by the same divisor is the integer again, which rounding keeps. -/
theorem realSystem_quantize_dequantize (r : QRound) {d : ℚ} (hd : d ≠ 0) (n : ℤ) :
    realSystem.quantize r d (realSystem.dequantize d n) = n := by
  simp only [realSystem]
  rw [mul_div_cancel_right₀ _ (Rat.cast_ne_zero.mpr hd), realRound_intCast]

/-- The exact numbers do what the real ones do. -/
theorem exactSystem_quantize_dequantize (r : QRound) {d : ℚ} (hd : d ≠ 0) (n : ℤ) :
    exactSystem.quantize r d (exactSystem.dequantize d n) = n := by
  rw [← exactSystem_carries.quantize, ← exactSystem_carries.dequantize, realSystem_quantize_dequantize r hd]

/-- Settles O34: no divisor is zero, and the law holds entry by entry. -/
theorem quantizeUndoesDequantize : Obligations.QuantizeUndoesDequantize := by
  intro p l q b hp hlow hhigh
  refine Vector.ext fun k hk => ?_
  simp only [quantize, dequantize, Vector.getElem_ofFn, Fin.getElem_fin]
  exact exactSystem_quantize_dequantize _ (scaleAt_pos hp l hlow hhigh _).ne' _

/-! ### The quantizer commands (41_quantizer R145, R146) -/

theorem quantize_exact_eq_blockOf (p : Params) (l : Layer) (q : Nat) (x : Block NUM) :
    quantize p exactSystem l q x = blockOf fun i j =>
      (NUM.scale (1 / scaleAt p.qTables l q (raster i j)) (blockAt x i j)).round p.qRound :=
  block_ext fun i j => by rw [blockAt_blockOf]; simp [blockAt, quantize, exactSystem]

theorem dequantize_exact_eq_blockOf (p : Params) (l : Layer) (q : Nat) (b : Block Int) :
    dequantize p exactSystem l q b = blockOf fun i j =>
      NUM.ofRat (((blockAt b i j : Int) : ℚ) * scaleAt p.qTables l q (raster i j)) :=
  block_ext fun i j => by rw [blockAt_blockOf]; simp [blockAt, dequantize, exactSystem]

/-- A layer that is not accepted, while not `FAULTED`, is blocked (10_state R32). -/
theorem State.layerBlocked_of_not_accepts {s : State} {l : Layer} (hf : s.faulted = false) (h : ¬s.Accepts l) :
    s.layerBlocked l = true := by
  simpa [CoreState.layerBlocked, State.Accepts, hf] using h

section

variable {ν : Type} {p : Params} {n : NumSystem ν} {l : Layer} {s : CoreState ν}

theorem ruleQnt_eq_ok (hl : s.layerBlocked l = false) (hq : s.quality ≠ 0) (hvx : s.vx = true)
    (hfit : p.fitsAll (quantize p n l s.quality s.xb).toList = true) :
    ruleQnt p n l s = .ok (writeQb (quantize p n l s.quality s.xb) s) := by
  simp [ruleQnt, hl, hq, hvx, hfit]

theorem ruleQnt_eq_seqFault (h : s.layerBlocked l = true ∨ s.quality = 0 ∨ s.vx = false) :
    ruleQnt p n l s = .error (seqFault (0x1200 + l.code)) := by
  rcases h with h | h | h <;> simp [ruleQnt, h]

theorem ruleDqt_eq_ok (hl : s.layerBlocked l = false) (hq : s.quality ≠ 0) (hvq : s.vq = true) :
    ruleDqt p n l s = .ok (writeXb (dequantize p n l s.quality s.qb) s) := by
  simp [ruleDqt, hl, hq, hvq]

theorem ruleDqt_eq_seqFault (h : s.layerBlocked l = true ∨ s.quality = 0 ∨ s.vq = false) :
    ruleDqt p n l s = .error (seqFault (0x1300 + l.code)) := by
  rcases h with h | h | h <;> simp [ruleDqt, h]

end

/-- Settles O30: the rule runs on the counted state, and writes the quotients or raises `E_SEQ`. -/
theorem qntCommand : Obligations.QntCommand := by
  refine ⟨fun s l ha hq hvx => ?_, fun s l hf h => ?_⟩
  · rw [← quantize_exact_eq_blockOf]
    intro q hfit
    exact runCommand_ok _ s _ ha.1 (ruleQnt_eq_ok ha.layerBlocked hq hvx hfit)
  · exact runCommand_seqFault hf (ruleQnt_eq_seqFault (h.imp_left (State.layerBlocked_of_not_accepts hf)))

/-- Settles O31: the rule runs on the counted state, and writes the products or raises `E_SEQ`. -/
theorem dqtCommand : Obligations.DqtCommand := by
  refine ⟨fun s l ha hq hvq => ?_, fun s l hf h => ?_⟩
  · rw [← dequantize_exact_eq_blockOf]
    exact runCommand_ok _ s _ ha.1 (ruleDqt_eq_ok ha.layerBlocked hq hvq)
  · exact runCommand_seqFault hf (ruleDqt_eq_seqFault (h.imp_left (State.layerBlocked_of_not_accepts hf)))

end Sys2Proof.Machine

namespace Sys2Proof.Machine

/-! ### The zig-zag order (42_zigzag R160) -/

@[simp] theorem zzRank_zzOrder (k : Fin 64) : zzRank (zzOrder k) = k := by
  revert k; decide

@[simp] theorem zzOrder_zzRank (p : Fin 64) : zzOrder (zzRank p) = p := by
  revert p; decide

/-- Settles O37: the two walks are run, and the two tables are inverse to each other. -/
theorem zigzagOrderIsTheWalk : Obligations.ZigzagOrderIsTheWalk :=
  ⟨by decide, fun k => ⟨zzRank_zzOrder k, zzOrder_zzRank k⟩, by decide⟩

/-! ### The zig-zag functions (42_zigzag R162, R165) -/

theorem zigzag_getElem (b : Block Int) (k : Fin 64) : (zigzag b)[k] = b[zzOrder k] := by
  simp [zigzag]

theorem inverseZigzag_getElem (z : Vector Int 64) (p : Fin 64) : (inverseZigzag z)[p] = z[zzRank p] := by
  simp [inverseZigzag]

theorem zigzag_getElem_zzRank (b : Block Int) (p : Fin 64) : (zigzag b)[zzRank p] = b[p] := by
  simp only [zigzag_getElem, zzOrder_zzRank]

theorem inverseZigzag_getElem_zzOrder (z : Vector Int 64) (k : Fin 64) : (inverseZigzag z)[zzOrder k] = z[k] := by
  simp only [inverseZigzag_getElem, zzRank_zzOrder]

theorem inverseZigzag_zigzag (b : Block Int) : inverseZigzag (zigzag b) = b :=
  Vector.ext fun p hp =>
    (inverseZigzag_getElem (zigzag b) ⟨p, hp⟩).trans (zigzag_getElem_zzRank b ⟨p, hp⟩)

theorem zigzag_inverseZigzag (z : Vector Int 64) : zigzag (inverseZigzag z) = z :=
  Vector.ext fun k hk =>
    (zigzag_getElem (inverseZigzag z) ⟨k, hk⟩).trans (inverseZigzag_getElem_zzOrder z ⟨k, hk⟩)

/-- Settles O38: element by element, one function reads where the other has put the value. -/
theorem zigzagsAreInverse : Obligations.ZigzagsAreInverse :=
  ⟨inverseZigzag_zigzag, zigzag_inverseZigzag⟩

/-! ### The zig-zag commands (42_zigzag R163, R164) -/

section

variable {ν : Type} {s : CoreState ν}

theorem ruleZz_eq_ok (h : s.vq = true) : ruleZz s = .ok (writeZq (zigzag s.qb) s) := by
  rw [ruleZz, if_pos h]

theorem ruleZz_eq_seqFault (h : s.vq = false) : ruleZz s = .error (seqFault 0x1400) := by
  simp [ruleZz, h]

theorem ruleIzz_eq_ok (h0 : s.vz0 = true) (ha : s.vza = true) : ruleIzz s = .ok (writeQb (inverseZigzag s.zq) s) := by
  simp [ruleIzz, h0, ha]

theorem ruleIzz_eq_seqFault (h : s.vz0 = false ∨ s.vza = false) : ruleIzz s = .error (seqFault 0x1500) := by
  rcases h with h | h <;> simp [ruleIzz, h]

end

/-- Settles O36: the rule runs on the counted state, and moves the 64 values or raises `E_SEQ`. -/
theorem zigzagCommands : Obligations.ZigzagCommands := by
  refine ⟨fun s hf hvq => ?_, fun s hf hvq => ?_, fun s hf h0 ha =>
    ⟨inverseZigzag s.zq, inverseZigzag_getElem_zzOrder s.zq, ?_⟩, fun s hf h => ?_⟩
  · exact runCommand_ok ruleZz s _ hf (ruleZz_eq_ok hvq)
  · exact runCommand_seqFault hf (ruleZz_eq_seqFault hvq)
  · exact runCommand_ok ruleIzz s _ hf (ruleIzz_eq_ok h0 ha)
  · exact runCommand_seqFault hf (ruleIzz_eq_seqFault h)

end Sys2Proof.Machine

namespace Sys2Proof.Machine

/-! ### The DC commands (43_dc_coder R172, R173) -/

section

variable {ν : Type} {p : Params} {l : Layer} {s : CoreState ν}

theorem ruleDce_eq_ok (hl : s.layerBlocked l = false) (hvz : s.vz0 = true) (hfit : p.fits (s.zq[0] - s.predOf l) = true) :
    ruleDce p l s = .ok (setPred l s.zq[0] (writeDiff (s.zq[0] - s.predOf l) s)) := by
  simp [ruleDce, hl, hvz, hfit]

theorem ruleDce_eq_seqFault (h : s.layerBlocked l = true ∨ s.vz0 = false) :
    ruleDce p l s = .error (seqFault (0x1800 + l.code)) := by
  rcases h with h | h <;> simp [ruleDce, h]

theorem ruleDcd_eq_ok (hl : s.layerBlocked l = false) (hvd : s.vd = true) (hfit : p.fits (s.predOf l + s.diff) = true) :
    ruleDcd p l s = .ok (setPred l (s.predOf l + s.diff) (writeZq0 (s.predOf l + s.diff) s)) := by
  simp [ruleDcd, hl, hvd, hfit]

theorem ruleDcd_eq_seqFault (h : s.layerBlocked l = true ∨ s.vd = false) :
    ruleDcd p l s = .error (seqFault (0x1900 + l.code)) := by
  rcases h with h | h <;> simp [ruleDcd, h]

end

section

variable {s : State} {l : Layer}

theorem exec_dce_eq_next (ha : s.Accepts l) (hvz : s.vz0 = true) (hfit : s.params.fits (s.zq[0] - s.predOf l) = true) :
    exec (.dce l) s = .next
      (({ s with diff := s.zq[0] - s.predOf l, vd := true, cmdCnt := s.cmdCnt + 1 } : State).withPred l s.zq[0]) := by
  rw [← countCommand_predOf] at hfit ⊢
  exact runCommand_ok (ruleDce s.params l) s _ ha.1 (ruleDce_eq_ok ha.layerBlocked hvz hfit)

theorem exec_dcd_eq_next (ha : s.Accepts l) (hvd : s.vd = true) (hfit : s.params.fits (s.predOf l + s.diff) = true) :
    exec (.dcd l) s = .next
      (({ s with zq := s.zq.set 0 (s.predOf l + s.diff), vz0 := true, cmdCnt := s.cmdCnt + 1 } : State).withPred l
        (s.predOf l + s.diff)) := by
  rw [← countCommand_predOf] at hfit ⊢
  exact runCommand_ok (ruleDcd s.params l) s _ ha.1 (ruleDcd_eq_ok ha.layerBlocked hvd hfit)

end

/-- Settles O39: the rule runs on the counted state, and writes the difference or raises `E_SEQ`. -/
theorem dceCommand : Obligations.DceCommand :=
  ⟨fun _ _ ha hvz hfit => exec_dce_eq_next ha hvz hfit, fun _ _ hf h =>
    runCommand_seqFault hf (ruleDce_eq_seqFault (h.imp_left (State.layerBlocked_of_not_accepts hf)))⟩

/-- Settles O40: the rule runs on the counted state, and writes the sum or raises `E_SEQ`. -/
theorem dcdCommand : Obligations.DcdCommand :=
  ⟨fun _ _ ha hvd hfit => exec_dcd_eq_next ha hvd hfit, fun _ _ hf h =>
    runCommand_seqFault hf (ruleDcd_eq_seqFault (h.imp_left (State.layerBlocked_of_not_accepts hf)))⟩

/-! ### Differences and sums of a sequence (43_dc_coder R170) -/

theorem encodeDifferential_eq_differencesFrom (seq : List Int) : encodeDifferential seq = differencesFrom 0 seq := by
  cases seq with
  | nil => rfl
  | cons v vs => rw [encodeDifferential, differencesFrom, sub_zero]

/-- The running sums from `p` undo the differences after `p`. -/
theorem sumsFrom_differencesFrom (p : Int) (seq : List Int) : sumsFrom p (differencesFrom p seq) = seq := by
  induction seq generalizing p with
  | nil => rfl
  | cons v vs ih => rw [differencesFrom, sumsFrom, add_sub_cancel, ih]

theorem decodeDifferential_encodeDifferential (seq : List Int) : decodeDifferential (encodeDifferential seq) = seq := by
  rw [decodeDifferential, encodeDifferential_eq_differencesFrom, sumsFrom_differencesFrom]

/-! ### The DC commands over a sequence (43_dc_coder R174) -/

/-- What a completed DC command of layer `l` leaves for the next one: `t` accepts the layer as `s` did, with `PRED[L] = v` and
the same parameters. -/
structure State.DcNext (l : Layer) (s : State) (v : Int) (t : State) : Prop where
  accepts : t.Accepts l
  pred : t.predOf l = v
  params : t.params = s.params

section

variable {l : Layer} {s : State}

theorem State.DcNext.withPred {t : State} {v : Int} (ha : t.Accepts l) (hp : t.params = s.params) :
    s.DcNext l v (t.withPred l v) where
  accepts := ⟨(setPred_faulted t.toCoreState l v).trans ha.1, by
    rw [State.withPred, over_toCoreState, setPred_grey]; exact ha.2⟩
  pred := predOf_setPred _ l v
  params := hp

theorem exec_dce_over_writeZq0 (ha : s.Accepts l) {v : Int} (hfit : s.params.fits (v - s.predOf l) = true) :
    ∃ t, exec (.dce l) (s.over (writeZq0 v)) = .next t ∧ t.diff = v - s.predOf l ∧ s.DcNext l v t := by
  have hzq : (s.over (writeZq0 v)).zq[0] = v := by simp [writeZq0]
  have hpred : (s.over (writeZq0 v)).predOf l = s.predOf l := by cases l <;> rfl
  have hexec := exec_dce_eq_next (s := s.over (writeZq0 v)) (l := l) ha rfl (by rw [hzq, hpred]; exact hfit)
  rw [hzq, hpred] at hexec
  exact ⟨_, hexec, setPred_diff _ l v, .withPred ha rfl⟩

theorem exec_dcd_over_writeDiff (ha : s.Accepts l) {d : Int} (hfit : s.params.fits (s.predOf l + d) = true) :
    ∃ t, exec (.dcd l) (s.over (writeDiff d)) = .next t ∧ t.zq[0] = s.predOf l + d ∧
      s.DcNext l (s.predOf l + d) t := by
  have hpred : (s.over (writeDiff d)).predOf l = s.predOf l := by cases l <;> rfl
  have hexec := exec_dcd_eq_next (s := s.over (writeDiff d)) (l := l) ha rfl (by rw [hpred]; exact hfit)
  rw [hpred] at hexec
  exact ⟨_, hexec, by simp [State.withPred, writeDiff], .withPred ha rfl⟩

end

/-- `DCE` over a sequence gives its differences after the predictor. -/
theorem dceOver_eq_differencesFrom {l : Layer} {s : State} {seq : List Int} (ha : s.Accepts l)
    (hfit : ∀ d ∈ differencesFrom (s.predOf l) seq, s.params.fits d = true) :
    dceOver l s seq = differencesFrom (s.predOf l) seq := by
  induction seq generalizing s with
  | nil => rfl
  | cons v vs ih =>
    rw [differencesFrom, List.forall_mem_cons] at hfit
    obtain ⟨t, ht, hdiff, hnext⟩ := exec_dce_over_writeZq0 ha hfit.1
    have hrest := ih hnext.accepts (by rw [hnext.pred, hnext.params]; exact hfit.2)
    simp only [dceOver, ht, differencesFrom, hdiff, hrest, hnext.pred]

/-- `DCD` over differences gives their running sums from the predictor. -/
theorem dcdOver_eq_sumsFrom {l : Layer} {s : State} {ds : List Int} (ha : s.Accepts l)
    (hfit : ∀ v ∈ sumsFrom (s.predOf l) ds, s.params.fits v = true) :
    dcdOver l s ds = sumsFrom (s.predOf l) ds := by
  induction ds generalizing s with
  | nil => rfl
  | cons d ds ih =>
    rw [sumsFrom, List.forall_mem_cons] at hfit
    obtain ⟨t, ht, hzq, hnext⟩ := exec_dcd_over_writeDiff ha hfit.1
    have hrest := ih hnext.accepts (by rw [hnext.pred, hnext.params]; exact hfit.2)
    simp only [dcdOver, ht, sumsFrom, hzq, hrest, hnext.pred]

/-- Settles O41: from the predictor 0 the two commands are the two functions, and the sums undo the differences. -/
theorem dcCoderRoundTrip : Obligations.DcCoderRoundTrip := by
  intro l s seq ha hpred hseq hdiffs
  have hdce : dceOver l s seq = encodeDifferential seq := by
    rw [encodeDifferential_eq_differencesFrom, ← hpred] at hdiffs ⊢
    exact dceOver_eq_differencesFrom ha hdiffs
  have hsums : sumsFrom (s.predOf l) (encodeDifferential seq) = seq := by
    rw [hpred]; exact decodeDifferential_encodeDifferential seq
  have hdcd : dcdOver l s (encodeDifferential seq) = seq := by
    rw [dcdOver_eq_sumsFrom ha (by rwa [hsums]), hsums]
  exact ⟨hdce, hdcd, decodeDifferential_encodeDifferential seq⟩

end Sys2Proof.Machine

namespace Sys2Proof.Machine

/-! ### The loop of `RLE` (44_rle_coder R181) -/

theorem upToLast_eq_rdropWhile (ac : List Int) : upToLast ac = ac.rdropWhile (fun v => v == 0) := rfl

theorem upToLast_concat (ac : List Int) (v : Int) :
    upToLast (ac ++ [v]) = if v = 0 then upToLast ac else ac ++ [v] := by
  simp [upToLast_eq_rdropWhile, List.rdropWhile_concat]

/-- The zeros after the last coefficient that is not zero only raise the run, so the loop may go on over them. -/
theorem foldl_rleTurn_upToLast_snd (st : Nat × List Pair) (ac : List Int) :
    ((upToLast ac).foldl rleTurn st).2 = (ac.foldl rleTurn st).2 := by
  induction ac using List.reverseRecOn with
  | nil => rfl
  | append_singleton ac v ih =>
    rw [upToLast_concat]
    split
    · next hv => rw [ih, List.foldl_append, List.foldl_cons, List.foldl_nil, rleTurn, if_pos hv]
    · rfl

/-- The loop begun with `run` zeros appends the pairs `rleFrom` gives, but for EOB. -/
theorem foldl_rleTurn_snd (run : Nat) (out : List Pair) (ac : List Int) :
    (ac.foldl rleTurn (run, out)).2 ++ [eob] = out ++ rleFrom run ac := by
  induction ac generalizing run out with
  | nil => rfl
  | cons v t ih =>
    rw [List.foldl_cons, rleTurn, rleFrom]
    split
    · exact ih (run + 1) out
    · rw [ih, List.append_assoc, List.append_assoc, List.singleton_append]

theorem rleFrom_zero_eq_rleByRule (ac : List Int) : rleFrom 0 ac = rleByRule ac := by
  rw [rleByRule, foldl_rleTurn_upToLast_snd, foldl_rleTurn_snd, List.nil_append]

theorem acOf_eq_drop (z : Vector Int 64) : acOf z = z.toList.drop 1 :=
  List.drop_one.symm

/-! ### What a list of pairs expands to (44_rle_coder R183) -/

theorem expansion_cons (q : Pair) (qs : List Pair) :
    expansion (q :: qs) = List.replicate q.run 0 ++ q.value :: expansion qs := by
  simp [expansion]

theorem length_expansion (ps : List Pair) : (expansion ps).length = coeffCount ps := by
  induction ps with
  | nil => rfl
  | cons q qs ih =>
    rw [expansion_cons, coeffCount_cons, List.length_append, List.length_replicate, List.length_cons, ih]; omega

theorem expand_cons_of_ne_eob {q : Pair} (h : q ≠ eob) (qs : List Pair) :
    expand (q :: qs) = (expand qs).map fun rest => List.replicate q.run 0 ++ q.value :: rest := by
  rw [expand, if_neg h]

theorem expand_append_eob {ps : List Pair} (h : eob ∉ ps) (rest : List Pair) :
    expand (ps ++ eob :: rest) = some (expansion ps) := by
  induction ps with
  | nil => exact if_pos rfl
  | cons q qs ih =>
    obtain ⟨hq, hqs⟩ := not_or.mp (mt List.mem_cons.mpr h)
    rw [List.cons_append, expand_cons_of_ne_eob (Ne.symm hq), ih hqs, expansion_cons, Option.map_some]

theorem expand_eq_none {ps : List Pair} (h : eob ∉ ps) : expand ps = none := by
  induction ps with
  | nil => rfl
  | cons q qs ih =>
    obtain ⟨hq, hqs⟩ := not_or.mp (mt List.mem_cons.mpr h)
    rw [expand_cons_of_ne_eob (Ne.symm hq), ih hqs, Option.map_none]

/-- `n` ZRL symbols put `16 * n` zeros before what follows. -/
theorem expand_replicate_zrl_append {ps : List Pair} {out : List Int} (h : expand ps = some out) (n : Nat) :
    expand (List.replicate n zrl ++ ps) = some (List.replicate (16 * n) 0 ++ out) := by
  induction n with
  | zero => exact h
  | succ n ih =>
    have hzeros : List.replicate (16 * (n + 1)) (0 : Int) = List.replicate 15 0 ++ 0 :: List.replicate (16 * n) 0 := by
      rw [← List.replicate_succ, ← List.replicate_add]; congr 1; omega
    rw [List.replicate_succ, List.cons_append, expand_cons_of_ne_eob (by decide), ih, hzeros, List.append_assoc]
    rfl

/-- What `RLE` makes of a coefficient sequence expands to the sequence again, but for the zeros at its end. -/
theorem expand_rleFrom (run : Nat) (ac : List Int) :
    ∃ out n, expand (rleFrom run ac) = some out ∧ out ++ List.replicate n 0 = List.replicate run 0 ++ ac := by
  induction ac generalizing run with
  | nil => exact ⟨[], run, rfl, by simp⟩
  | cons v t ih =>
    rw [rleFrom]
    split
    · next hv =>
      obtain ⟨out, n, hexp, hout⟩ := ih (run + 1)
      exact ⟨out, n, hexp, by rw [hout, hv, List.replicate_succ', List.append_assoc, List.singleton_append]⟩
    · next hv =>
      obtain ⟨out, n, hexp, hout⟩ := ih 0
      have hne : (⟨run % 16, v⟩ : Pair) ≠ eob := fun h => hv (congrArg Pair.value h)
      refine ⟨List.replicate run 0 ++ v :: out, n, ?_, ?_⟩
      · rw [expand_replicate_zrl_append (by rw [expand_cons_of_ne_eob hne, hexp, Option.map_some]),
          ← List.append_assoc, ← List.replicate_add, Nat.div_add_mod]
      · rw [List.append_assoc, List.cons_append, hout]; rfl

/-! ### The run-length commands (44_rle_coder R181, R183) -/

section

variable {ν : Type} {s : CoreState ν} {out : List Int}

theorem ruleRle_eq_ok (h : s.vza = true) : ruleRle s = .ok (writeRl (rleFrom 0 (acOf s.zq)) s) := by
  rw [ruleRle, if_pos h]

theorem ruleRle_eq_seqFault (h : s.vza = false) : ruleRle s = .error (seqFault 0x1A00) := by
  simp [ruleRle, h]

theorem ruleRld_eq_ok (hvr : s.vr = true) (hexp : expand s.rl = some out) (hlen : out.length ≤ 63) :
    ruleRld s = .ok (writeZqAc out s) := by
  simp [ruleRld, hvr, hexp, hlen]

theorem ruleRld_eq_error_length (hvr : s.vr = true) (hexp : expand s.rl = some out) (hlen : ¬out.length ≤ 63) :
    ruleRld s = .error ⟨.rleFormat, out.length, 0⟩ := by
  rw [ruleRld, if_pos hvr, hexp]; exact if_neg hlen

theorem ruleRld_eq_error_zero (hvr : s.vr = true) (hexp : expand s.rl = none) :
    ruleRld s = .error ⟨.rleFormat, 0, 0⟩ := by
  rw [ruleRld, if_pos hvr, hexp]

theorem ruleRld_eq_seqFault (h : s.vr = false) : ruleRld s = .error (seqFault 0x1B00) := by
  simp [ruleRld, h]

end

section

variable {s : State} (hf : s.faulted = false)
include hf

theorem exec_rle_eq_next (hvza : s.vza = true) :
    exec .rle s = .next { s with rl := rleFrom 0 (acOf s.zq), vr := true, cmdCnt := s.cmdCnt + 1 } :=
  runCommand_ok ruleRle s _ hf (ruleRle_eq_ok hvza)

theorem exec_rld_eq_next {out : List Int} (hvr : s.vr = true) (hexp : expand s.rl = some out)
    (hlen : out.length ≤ 63) : exec .rld s = .next
      { s with
        zq := Vector.ofFn fun k => if k.val = 0 then s.zq[0] else out.getD (k.val - 1) 0
        vza := true, cmdCnt := s.cmdCnt + 1 } := by
  have hzq : (s.zq.mapIdx fun k x => if k = 0 then x else out.getD (k - 1) 0) =
      Vector.ofFn fun k : Fin 64 => if k.val = 0 then s.zq[0] else out.getD (k.val - 1) 0 := by
    refine Vector.ext fun k hk => ?_
    rw [Vector.getElem_mapIdx, Vector.getElem_ofFn]
    split
    · next h0 => subst h0; rfl
    · rfl
  rw [← hzq]
  exact runCommand_ok ruleRld s _ hf (ruleRld_eq_ok hvr hexp hlen)

theorem exec_rld_eq_faultedWith_length {out : List Int} (hvr : s.vr = true) (hexp : expand s.rl = some out)
    (hlen : ¬out.length ≤ 63) : exec .rld s = .next (s.faultedWith .rleFormat out.length 0) :=
  runCommand_error ruleRld s _ hf (ruleRld_eq_error_length hvr hexp hlen)

theorem exec_rld_eq_faultedWith_zero (hvr : s.vr = true) (hexp : expand s.rl = none) :
    exec .rld s = .next (s.faultedWith .rleFormat 0 0) :=
  runCommand_error ruleRld s _ hf (ruleRld_eq_error_zero hvr hexp)

end

/-- Settles O42: the recursion over all 63 coefficients is the loop up to the last that is not zero. -/
theorem rleCommand : Obligations.RleCommand := by
  refine ⟨fun s hf hvza => ?_, fun s hf hvza => runCommand_seqFault hf (ruleRle_eq_seqFault hvza)⟩
  rw [exec_rle_eq_next hf hvza, rleFrom_zero_eq_rleByRule, acOf_eq_drop]

/-- Settles O43: the list's expansion is that of the pairs before the first EOB, and its length is their count. -/
theorem rldCommand : Obligations.RldCommand := by
  refine ⟨fun s ps rest hf hvr hrl hps => ?_,
    fun s hf hvr hrl => exec_rld_eq_faultedWith_zero hf hvr (expand_eq_none hrl),
    fun s hf hvr => runCommand_seqFault hf (ruleRld_eq_seqFault hvr)⟩
  have hexp : expand s.rl = some (expansion ps) := by rw [hrl, expand_append_eob hps]
  rw [← length_expansion]
  split
  · next hlen => exact exec_rld_eq_next hf hvr hexp hlen
  · next hlen => exact exec_rld_eq_faultedWith_length hf hvr hexp hlen

/-! ### `RLD` after `RLE` (44_rle_coder R184) -/

/-- The pairs of the 63 coefficients expand to at most 63 values, which are the coefficients where zeros follow them. -/
theorem expand_rleFrom_acOf (z : Vector Int 64) :
    ∃ out, expand (rleFrom 0 (acOf z)) = some out ∧ out.length ≤ 63 ∧ ∀ k, out.getD k 0 = (acOf z).getD k 0 := by
  obtain ⟨out, n, hexp, hout⟩ := expand_rleFrom 0 (acOf z)
  rw [List.replicate_zero, List.nil_append] at hout
  have hlen : out.length + n = 63 := by simpa [length_acOf] using congrArg List.length hout
  refine ⟨out, hexp, by omega, fun k => ?_⟩
  rw [← hout]
  rcases lt_or_ge k out.length with hk | hk
  · rw [List.getD_append _ _ _ _ hk]
  · rw [List.getD_append_right _ _ _ _ hk, List.getD_eq_default _ _ hk, List.getD_eq_getElem?_getD,
      List.getElem?_getD_replicate_default_eq]

theorem acOf_getD (z : Vector Int 64) {k : Fin 64} (hk : k ≠ 0) : (acOf z).getD (k.val - 1) 0 = z[k] := by
  have hpos : k.val - 1 + 1 = k.val := Nat.sub_add_cancel (Nat.pos_of_ne_zero (Fin.val_ne_of_ne hk))
  simp [acOf, hpos]

/-- Settles O44: the list `RLE` wrote expands to the coefficients, so `RLD` completes and writes them. -/
theorem runLengthRoundTrip : Obligations.RunLengthRoundTrip := by
  intro s t u hf hvza ht huf hvr hrl
  have htrl : rleFrom 0 (acOf s.zq) = t.rl :=
    congrArg (fun w : State => w.rl) (Host.Outcome.next.inj ((exec_rle_eq_next hf hvza).symm.trans ht))
  obtain ⟨out, hexp, hlen, hout⟩ := expand_rleFrom_acOf s.zq
  rw [htrl, ← hrl] at hexp
  refine ⟨_, exec_rld_eq_next huf hvr hexp hlen, huf, fun k hk => ?_⟩
  rw [← acOf_getD s.zq hk, ← hout]
  simp [hk]

end Sys2Proof.Machine

namespace Sys2Proof.Machine

/-! ### Categories and literals (45_huffman R201 to R204) -/

/-- The values of at most `n` bits (45_huffman R201). -/
theorem category_le_iff {v : Int} {n : Nat} : category v ≤ n ↔ v.natAbs < 2 ^ n := by
  by_cases h : v = 0
  · simp [h, category]
  · rw [category, if_neg h, Nat.succ_le_iff, Nat.log2_lt (Int.natAbs_ne_zero.mpr h)]

@[simp] theorem category_eq_zero {v : Int} : category v = 0 ↔ v = 0 := by
  rw [← Nat.le_zero, category_le_iff, Nat.pow_zero, Nat.lt_one_iff, Int.natAbs_eq_zero]

/-- The band of a size that is not 0 (45_huffman R202). -/
theorem category_eq_of_band {v : Int} {size : Nat} (hlow : 2 ^ (size - 1) ≤ v.natAbs) (hhigh : v.natAbs < 2 ^ size) :
    category v = size := by
  have hle := category_le_iff.mpr hhigh
  have hge := category_le_iff.not.mpr (Nat.not_lt.mpr hlow)
  omega

theorem literal_of_pos {v : Int} (h : 0 < v) : literal v = binOf (category v) v.toNat := by
  rw [literal, bandIndex, if_pos h.le]

theorem literal_of_neg {v : Int} (h : v < 0) :
    literal v = binOf (category v) (v + 2 ^ category v - 1).toNat := by
  rw [literal, bandIndex, if_neg h.not_ge]

/-- The two halves of a band of a size that is not 0 (45_huffman R204). -/
theorem unliteral_of_pos {size : Nat} (h : 1 ≤ size) (k : Nat) :
    unliteral size k = if 2 ^ (size - 1) ≤ k then (k : Int) else (k : Int) - (2 ^ size - 1) :=
  if_neg (Nat.one_le_iff_ne_zero.mp h)

/-- The value at a position of a band is in the band (45_huffman R204). -/
theorem category_unliteral {size k : Nat} (h : 1 ≤ size) (hk : k < 2 ^ size) : category (unliteral size k) = size := by
  have hpow : 2 ^ size = 2 * 2 ^ (size - 1) := (mul_pow_sub_one (Nat.one_le_iff_ne_zero.mp h) 2).symm
  have hcast : (2 : Int) ^ size = (2 ^ size : Nat) := by simp
  rw [unliteral_of_pos h, hcast]
  split <;> exact category_eq_of_band (by omega) (by omega)

/-- The literal of the value at a position of a band is that position (45_huffman R204). -/
theorem literal_unliteral {size k : Nat} (h : 1 ≤ size) (hk : k < 2 ^ size) :
    literal (unliteral size k) = binOf size k := by
  have hpow : 2 ^ size = 2 * 2 ^ (size - 1) := (mul_pow_sub_one (Nat.one_le_iff_ne_zero.mp h) 2).symm
  have hcast : (2 : Int) ^ size = (2 ^ size : Nat) := by simp
  rw [literal, bandIndex, category_unliteral h hk, unliteral_of_pos h, hcast]
  congr 1
  split_ifs <;> omega

/-- Settles O45: `category` is the number of bits, and the position in a band and the value there determine each other. -/
theorem categoryAndLiteral : Obligations.CategoryAndLiteral := by
  refine ⟨rfl, rfl, fun _ => rfl, fun v hv => ?_, fun _ => literal_of_pos, fun _ => literal_of_neg, unliteral_literal,
    fun size k h hk => ⟨unliteral_of_pos h k, category_unliteral h hk, literal_unliteral h hk⟩⟩
  obtain ⟨hlow, hhigh, -⟩ := two_pow_category hv
  exact ⟨Nat.one_le_iff_ne_zero.mpr (category_eq_zero.not.mpr hv), hlow, Nat.le_sub_one_of_lt hhigh⟩

/-! ### Which values have an encoding (45_huffman R192, R205) -/

/-- Settles O9, by checking each of the four tables. -/
theorem tablesArePrefixCodes : Obligations.TablesArePrefixCodes :=
  HTables.valid_get (h := HTables.default) (by decide +kernel)

/-- A valid table has a codeword for exactly the keys of its domain (45_huffman R192). -/
theorem HTable.isSome_code? {ty : ValType} {t : HTable} (hv : t.valid ty = true) {run size : Nat} :
    (t.code? run size).isSome = true ↔ ValType.hasKey ty run size = true := by
  obtain ⟨hkeys, hcodes, -, -⟩ := (HTable.valid_iff ty t).mp hv
  refine ⟨fun h => ?_, fun h => hkeys _ (mem_keys_of_hasKey h)⟩
  obtain ⟨c, hc⟩ := Option.isSome_iff_exists.mp h
  obtain ⟨hmem, rfl, rfl⟩ := code?_some hc
  exact (hcodes c hmem).1

/-- Settles O46: the key of a value is in the domain of the table exactly when its category is small enough. -/
theorem encodableValues : Obligations.EncodableValues := by
  refine fun h hv => ⟨fun d l => ?_, fun p l => ?_⟩
  · have hcat : category d ≤ 11 ↔ d.natAbs < 2048 := category_le_iff
    rw [encDc, Option.isSome_map, HTable.isSome_code? (HTables.valid_get hv .dc l)]
    simp only [ValType.hasKey, Nat.beq_refl, Bool.true_and, Nat.ble_eq, hcat]
    omega
  · have hcat : category p.value ≤ 10 ↔ p.value.natAbs < 1024 := category_le_iff
    have hpos : 1 ≤ category p.value ↔ p.value ≠ 0 := by rw [Nat.one_le_iff_ne_zero, Ne, category_eq_zero]
    obtain ⟨run, value⟩ := p
    rw [encAc, Option.isSome_map, HTable.isSome_code? (HTables.valid_get hv .ac l)]
    simp only [ValType.hasKey, Bool.or_eq_true, Bool.and_eq_true, Nat.ble_eq, Nat.beq_eq, category_eq_zero, hcat, hpos,
      eob, zrl, Pair.mk.injEq]
    omega

/-! ### The encoding commands (45_huffman R209, R210) -/

section

variable {ν : Type} {p : Params} {l : Layer} {s : CoreState ν} {b : Bits}

theorem appendBits_eq_ok {k : Fin 4} (hcap : p.holds (s.mem.len k + b.length) = true) :
    appendBits p k b s = .ok { s with mem := s.mem.append k b } := by
  rw [appendBits, hcap, checkLimit_true]

theorem ruleHedc_eq_ok (hl : s.layerBlocked l = false) (hvd : s.vd = true) (hd : -2047 ≤ s.diff ∧ s.diff ≤ 2047)
    (hb : encDc p.hTables s.diff l = some b) (hcap : p.holds (s.mem.len (segIx .dc l) + b.length) = true) :
    ruleHedc p l s = .ok { s with mem := s.mem.append (segIx .dc l) b } := by
  simp [ruleHedc, hl, hvd, hd, hb, appendBits_eq_ok hcap]

theorem ruleHedc_eq_error (hl : s.layerBlocked l = false) (hvd : s.vd = true)
    (hd : ¬(-2047 ≤ s.diff ∧ s.diff ≤ 2047)) : ruleHedc p l s = .error ⟨.dcRange, s.diff, 0⟩ := by
  simp only [ruleHedc, hl, hvd, hd, if_true, if_false, Bool.false_eq_true]

theorem ruleHedc_eq_seqFault (h : s.layerBlocked l = true ∨ s.vd = false) :
    ruleHedc p l s = .error (seqFault (0x2000 + l.code)) := by
  rcases h with h | h <;> simp [ruleHedc, h]

theorem ruleHeac_eq_ok (hl : s.layerBlocked l = false) (hvr : s.vr = true) (hb : encPairs p.hTables l 0 s.rl = .ok b)
    (hcap : p.holds (s.mem.len (segIx .ac l) + b.length) = true) :
    ruleHeac p l s = .ok { s with mem := s.mem.append (segIx .ac l) b } := by
  simp [ruleHeac, hl, hvr, hb, appendBits_eq_ok hcap]

theorem ruleHeac_eq_error (hl : s.layerBlocked l = false) (hvr : s.vr = true) {n : Nat}
    (hb : encPairs p.hTables l 0 s.rl = .error n) : ruleHeac p l s = .error ⟨.acRange, n, 0⟩ := by
  simp [ruleHeac, hl, hvr, hb]

theorem ruleHeac_eq_seqFault (h : s.layerBlocked l = true ∨ s.vr = false) :
    ruleHeac p l s = .error (seqFault (0x2100 + l.code)) := by
  rcases h with h | h <;> simp [ruleHeac, h]

end

/-- Settles O47: within the range the difference has an encoding (O46), which is appended; the tests of the rule do the rest. -/
theorem hedcCommand : Obligations.HedcCommand := by
  refine ⟨fun s l hv ha hvd hlow hhigh => ?_, fun s l ha hvd hd => ?_, fun s l hf h => ?_⟩
  · obtain ⟨b, hb⟩ := Option.isSome_iff_exists.mp (((encodableValues _ hv).1 s.diff l).mpr ⟨hlow, hhigh⟩)
    obtain ⟨c, hc, rfl⟩ := Option.map_eq_some_iff.mp hb
    exact ⟨c, hc, fun hcap => runCommand_ok (ruleHedc s.params l) s _ ha.1
      (ruleHedc_eq_ok ha.layerBlocked hvd ⟨hlow, hhigh⟩ hb hcap)⟩
  · exact runCommand_error (ruleHedc s.params l) s _ ha.1
      (ruleHedc_eq_error ha.layerBlocked hvd (by show ¬(-2047 ≤ s.diff ∧ s.diff ≤ 2047); omega))
  · exact runCommand_seqFault hf (ruleHedc_eq_seqFault (h.imp_left (State.layerBlocked_of_not_accepts hf)))

/-- Settles O48: the pairs are coded one after another, up to the end or to the first that has no encoding. -/
theorem heacCommand : Obligations.HeacCommand := by
  refine ⟨fun s l ha hvr hs => ?_, fun s l before after p ha hvr hrl hs hp => ?_, fun s l hf h => ?_⟩
  · exact fun hcap => runCommand_ok (ruleHeac s.params l) s _ ha.1
      (ruleHeac_eq_ok ha.layerBlocked hvr (encPairs_ok _ l s.rl 0 hs) hcap)
  · have hb : encPairs s.params.hTables l 0 s.rl = .error before.length := by
      rw [hrl, encPairs_error _ l before p after 0 hs hp, Nat.zero_add]
    exact runCommand_error (ruleHeac s.params l) s _ ha.1
      (ruleHeac_eq_error (s := countCommand s.toCoreState) ha.layerBlocked hvr hb)
  · exact runCommand_seqFault hf (ruleHeac_eq_seqFault (h.imp_left (State.layerBlocked_of_not_accepts hf)))

end Sys2Proof.Machine

namespace Sys2Proof.Machine

/-! ### Symbols and the pairs they stand for (30_encoding R99, 45_huffman R205, R207) -/

/-- The encoding of a symbol's instruction is the symbol's bits. -/
theorem encode_eq_bits {i : Instr} {y : Symbol} (hy : i.symbol? = some y) (h : HTables) : encode h i = y.bits h := by
  simp only [encode, word?_of_symbol? hy, hy]

/-- A symbol is of one instruction only (30_encoding R98). -/
theorem symbol?_inj {i e : Instr} {y : Symbol} (hi : i.symbol? = some y) (he : e.symbol? = some y) : i = e := by
  obtain ⟨-, -, hyi⟩ := instr?_of_symbol? hi
  obtain ⟨-, -, hye⟩ := instr?_of_symbol? he
  exact Option.some.inj (hyi.symm.trans hye)

/-- A DC symbol has run 0 (45_huffman R190). -/
theorem run_eq_zero_of_dc {i : Instr} {y : Symbol} (hy : i.symbol? = some y) (hdc : y.type = .dc) : y.run = 0 := by
  obtain ⟨hkey, -, -⟩ := instr?_of_symbol? hy
  rw [hdc] at hkey
  exact Nat.eq_of_beq_eq_true (Bool.and_eq_true _ _ ▸ hkey).1

/-- The category and the literal of the value of a symbol are the symbol's size and literal (45_huffman R204, R207). -/
theorem category_literal_of_symbol? {i : Instr} {y : Symbol} (hy : i.symbol? = some y) :
    category (unliteral y.size y.lit) = y.size ∧ literal (unliteral y.size y.lit) = binOf y.size y.lit := by
  obtain ⟨-, hlit, -⟩ := instr?_of_symbol? hy
  by_cases h0 : y.size = 0
  · rw [h0]; exact ⟨rfl, rfl⟩
  · have hpos := Nat.one_le_iff_ne_zero.mpr h0
    exact ⟨category_unliteral hpos hlit, literal_unliteral hpos hlit⟩

/-- The encoding of an AC symbol is that of the pair it stands for (45_huffman R205, R207). -/
theorem encAc_pairOf {h : HTables} (hv : h.valid = true) {i : Instr} {y : Symbol} (hy : i.symbol? = some y)
    (hac : y.type = .ac) : encAc h (pairOf y) y.layer = some (encode h i) := by
  obtain ⟨hcat, hlit⟩ := category_literal_of_symbol? hy
  obtain ⟨hkey, -, -⟩ := instr?_of_symbol? hy
  obtain ⟨c, hc⟩ := Option.isSome_iff_exists.mp ((HTable.isSome_code? (HTables.valid_get hv y.type y.layer)).mpr hkey)
  rw [encode_eq_bits hy, Symbol.bits, hc]
  rw [hac] at hc
  simp only [encAc, pairOf, hcat, hc, hlit, Option.map_some]

/-- The only AC symbol that stands for EOB is the EOB symbol (45_huffman R207). -/
theorem eq_of_pairOf_eq_eob {i : Instr} {y : Symbol} (hy : i.symbol? = some y) (hac : y.type = .ac)
    (h : pairOf y = eob) : y = ⟨.ac, y.layer, 0, 0, 0⟩ := by
  obtain ⟨hcat, -⟩ := category_literal_of_symbol? hy
  obtain ⟨-, hlit, -⟩ := instr?_of_symbol? hy
  obtain ⟨hrun, hvalue⟩ := Pair.mk.inj h
  have hsize : y.size = 0 := by rw [← hcat, category_eq_zero, hvalue]
  have hlit0 : y.lit = 0 := by simpa [hsize] using hlit
  obtain ⟨ty, l, run, size, lit⟩ := y
  simp only at hac hrun hsize hlit0
  rw [hac, hrun, hsize, hlit0]

/-! ### One turn of the loop of `HDAC` (45_huffman R212) -/

section

variable {h : HTables} {l : Layer} {rest : Bits}

theorem hdacLoop_of_ok {y : Symbol} {n : Nat} (hread : readSymbol h .ac l rest = .ok (y, n)) (turns p : Nat)
    (out : List Pair) (cnt : Nat) :
    hdacLoop h l (turns + 1) rest p out cnt = takeAc y n (hdacLoop h l turns) rest p out cnt := by
  simp only [hdacLoop, hread]

theorem hdacLoop_of_error {e : SymbolFault} (hread : readSymbol h .ac l rest = .error e) (turns p : Nat)
    (out : List Pair) (cnt : Nat) :
    hdacLoop h l (turns + 1) rest p out cnt = .error (symbolRaise e p (segIx .ac l)) := by
  simp only [hdacLoop, hread]

end

/-! ### The decoding commands (45_huffman R206, R207, R211, R212) -/

section

variable {ν : Type} {p : Params} {l : Layer} {s : CoreState ν} {i : Instr} {y : Symbol}

theorem takeDc_eq_ok {n : Nat} (hfit : p.fits (unliteral y.size y.lit) = true) :
    takeDc p l y n s = .ok (writeDiff (unliteral y.size y.lit)
      { s with mem := s.mem.setCur (segIx .dc l) (s.mem.cur[segIx .dc l] + n) }) := by
  simp only [takeDc, hfit, checkLimit_true]

theorem ruleHddc_eq_takeDc {n : Nat} (hl : s.layerBlocked l = false)
    (hread : readSymbol p.hTables .dc l (s.mem.rest (segIx .dc l)) = .ok (y, n)) :
    ruleHddc p l s = takeDc p l y n s := by
  simp [ruleHddc, hl, hread]

theorem ruleHddc_eq_error {e : SymbolFault} (hl : s.layerBlocked l = false)
    (hread : readSymbol p.hTables .dc l (s.mem.rest (segIx .dc l)) = .error e) :
    ruleHddc p l s = .error (symbolRaise e s.mem.cur[segIx .dc l] (segIx .dc l)) := by
  simp [ruleHddc, hl, hread]

theorem ruleHdac_eq_commitAc {r : Except Raise (List Pair × Nat)} (hl : s.layerBlocked l = false)
    (hloop : hdacLoop p.hTables l 64 (s.mem.rest (segIx .ac l)) s.mem.cur[segIx .ac l] [] 0 = r) :
    ruleHdac p l s = commitAc p l r s := by
  simp only [ruleHdac, hl, hloop, Bool.false_eq_true, if_false]

theorem commitAc_eq_ok {out : List Pair} {q : Nat} (hfit : p.fitsAll (out.map fun x => x.value) = true) :
    commitAc p l (.ok (out, q)) s = .ok (writeRl out { s with mem := s.mem.setCur (segIx .ac l) q }) := by
  simp only [commitAc, hfit, checkLimit_true]

/-- A DC symbol whose bits are all left is taken (log 10). -/
theorem symbolRule_eq_takeDc (hy : i.symbol? = some y) (hdc : y.type = .dc) (hl : s.layerBlocked y.layer = false)
    (hlen : (y.bits p.hTables).length ≤ (s.mem.rest (segIx .dc y.layer)).length) :
    symbolRule p y s = takeDc p y.layer y (y.bits p.hTables).length s := by
  have hrun := run_eq_zero_of_dc hy hdc
  obtain ⟨ty, l, run, size, lit⟩ := y
  subst hdc hrun
  simp only at hl hlen
  simp [symbolRule, ruleDcSymbol, hl, Nat.not_lt.mpr hlen]

/-- An AC symbol whose bits are all left is taken as the first of the block (log 10). -/
theorem symbolRule_eq_commitAc (hac : y.type = .ac) (hl : s.layerBlocked y.layer = false)
    (hlen : (y.bits p.hTables).length ≤ (s.mem.rest (segIx .ac y.layer)).length) :
    symbolRule p y s = commitAc p y.layer
      (takeAc y (y.bits p.hTables).length (hdacLoop p.hTables y.layer 63) (s.mem.rest (segIx .ac y.layer))
        s.mem.cur[segIx .ac y.layer] [] 0) s := by
  obtain ⟨ty, l, run, size, lit⟩ := y
  subst hac
  simp only at hl hlen
  simp [symbolRule, ruleAcSymbol, hl, Nat.not_lt.mpr hlen]

/-- A symbol whose bits are not all left is an underrun (log 10). -/
theorem symbolRule_eq_underrun (hy : i.symbol? = some y) (hl : s.layerBlocked y.layer = false)
    (hlen : (s.mem.rest (segIx y.type y.layer)).length < (y.bits p.hTables).length) :
    symbolRule p y s =
      .error (symbolRaise .underrun s.mem.cur[segIx y.type y.layer] (segIx y.type y.layer)) := by
  have hrun := run_eq_zero_of_dc hy
  obtain ⟨ty, l, run, size, lit⟩ := y
  simp only at hl hlen
  cases ty with
  | dc => obtain rfl := hrun rfl; simp [symbolRule, ruleDcSymbol, hl, hlen]
  | ac => simp [symbolRule, ruleAcSymbol, hl, hlen]

/-- A DC symbol that is read at the cursor is what `HDDC` takes. -/
theorem symbolRule_eq_ruleHddc (hy : i.symbol? = some y) (hdc : y.type = .dc) (hl : s.layerBlocked y.layer = false)
    (hread : readSymbol p.hTables .dc y.layer (s.mem.rest (segIx .dc y.layer)) =
      .ok (y, (y.bits p.hTables).length)) : symbolRule p y s = ruleHddc p y.layer s := by
  obtain ⟨-, -, hlen, -⟩ := readSymbol_ok hread
  rw [ruleHddc_eq_takeDc hl hread, symbolRule_eq_takeDc hy hdc hl hlen]

/-- An AC symbol that is read at the cursor is what `HDAC` takes in its first turn. -/
theorem symbolRule_eq_ruleHdac (hac : y.type = .ac) (hl : s.layerBlocked y.layer = false)
    (hread : readSymbol p.hTables .ac y.layer (s.mem.rest (segIx .ac y.layer)) =
      .ok (y, (y.bits p.hTables).length)) : symbolRule p y s = ruleHdac p y.layer s := by
  obtain ⟨-, -, hlen, -⟩ := readSymbol_ok hread
  rw [ruleHdac_eq_commitAc hl (hdacLoop_of_ok hread 63 _ _ _), symbolRule_eq_commitAc hac hl hlen]

end

/-- Two commands whose rules do the same to the counted state are the same there. -/
theorem runCommand_congr {rule rule' : CoreState NUM → Effect NUM} {s : State}
    (h : rule (countCommand s.toCoreState) = rule' (countCommand s.toCoreState)) :
    runCommand rule s = runCommand rule' s := by
  simp only [runCommand_eq, commandStep, h]

section

variable {s : State} {l : Layer} {i : Instr} {y : Symbol} {tail : Bits}

/-- The symbol at the cursor is the one that is read (O6). -/
theorem readSymbol_rest_of_encode (hv : s.params.hTables.valid = true) (hy : i.symbol? = some y) {ty : ValType}
    (hty : y.type = ty) (hrest : s.mem.rest (segIx ty y.layer) = encode s.params.hTables i ++ tail) :
    readSymbol s.params.hTables ty y.layer (s.mem.rest (segIx ty y.layer)) =
      .ok (y, (y.bits s.params.hTables).length) := by
  subst hty
  rw [hrest, ← encode_eq_bits hy]
  exact (symbolDecodeEncode s.params.hTables i y tail hv hy).1

/-- A DC symbol at the cursor is `HDDC` (log 10). -/
theorem exec_symbol_eq_hddc (hv : s.params.hTables.valid = true) (hy : i.symbol? = some y) (hdc : y.type = .dc)
    (ha : s.Accepts y.layer) (hrest : s.mem.rest (segIx .dc y.layer) = encode s.params.hTables i ++ tail) :
    exec i s = exec (.hddc y.layer) s := by
  rw [exec_symbol hy]
  exact runCommand_congr
    (symbolRule_eq_ruleHddc hy hdc ha.layerBlocked (readSymbol_rest_of_encode hv hy hdc hrest))

/-- An AC symbol at the cursor is `HDAC` (log 10). -/
theorem exec_symbol_eq_hdac (hv : s.params.hTables.valid = true) (hy : i.symbol? = some y) (hac : y.type = .ac)
    (ha : s.Accepts y.layer) (hrest : s.mem.rest (segIx .ac y.layer) = encode s.params.hTables i ++ tail) :
    exec i s = exec (.hdac y.layer) s := by
  rw [exec_symbol hy]
  exact runCommand_congr (symbolRule_eq_ruleHdac hac ha.layerBlocked (readSymbol_rest_of_encode hv hy hac hrest))

theorem exec_hddc_eq_next {n : Nat} (ha : s.Accepts l)
    (hread : readSymbol s.params.hTables .dc l (s.mem.rest (segIx .dc l)) = .ok (y, n))
    (hfit : s.params.fits (unliteral y.size y.lit) = true) :
    exec (.hddc l) s = .next { s with
      diff := unliteral y.size y.lit, vd := true
      mem := s.mem.setCur (segIx .dc l) (s.mem.cur[segIx .dc l] + n), cmdCnt := s.cmdCnt + 1 } :=
  runCommand_ok (ruleHddc s.params l) s _ ha.1
    ((ruleHddc_eq_takeDc (s := countCommand s.toCoreState) ha.layerBlocked hread).trans (takeDc_eq_ok hfit))

theorem exec_hddc_eq_raise {e : SymbolFault} (ha : s.Accepts l)
    (hread : readSymbol s.params.hTables .dc l (s.mem.rest (segIx .dc l)) = .error e) :
    exec (.hddc l) s = .next (s.over fun c =>
      takeFault (symbolRaise e s.mem.cur[segIx .dc l] (segIx .dc l)) (countCommand c)) :=
  runCommand_error (ruleHddc s.params l) s _ ha.1 (ruleHddc_eq_error ha.layerBlocked hread)

/-- A loop that reads to EOB is `HDAC` completed, where the values fit. -/
theorem exec_hdac_eq_next {ps : List Pair} {q : Nat} (ha : s.Accepts l)
    (hloop : hdacLoop s.params.hTables l 64 (s.mem.rest (segIx .ac l)) s.mem.cur[segIx .ac l] [] 0 =
      .ok (ps ++ [eob], q)) (hfit : s.params.fitsAll (ps.map fun p => p.value) = true) :
    exec (.hdac l) s = .next { s with
      rl := ps ++ [eob], vr := true, mem := s.mem.setCur (segIx .ac l) q, cmdCnt := s.cmdCnt + 1 } := by
  have hall : s.params.fitsAll ((ps ++ [eob]).map fun p => p.value) = true := by
    rw [Params.fitsAll_iff] at hfit ⊢
    rw [List.map_append, List.forall_mem_append]
    exact ⟨hfit, by simp [eob, Params.fits_zero]⟩
  exact runCommand_ok (ruleHdac s.params l) s _ ha.1
    ((ruleHdac_eq_commitAc (s := countCommand s.toCoreState) ha.layerBlocked hloop).trans (commitAc_eq_ok hall))

/-- What the loop raises is `HDAC`'s fault. -/
theorem exec_hdac_eq_raise {r : Raise} (ha : s.Accepts l)
    (hloop : hdacLoop s.params.hTables l 64 (s.mem.rest (segIx .ac l)) s.mem.cur[segIx .ac l] [] 0 = .error r) :
    exec (.hdac l) s = .next (s.over fun c => takeFault r (countCommand c)) :=
  runCommand_error (ruleHdac s.params l) s _ ha.1
    (ruleHdac_eq_commitAc (s := countCommand s.toCoreState) ha.layerBlocked hloop)

end

/-- Settles O49: the symbol at the cursor is read back, and taken by `HDDC` as by itself. -/
theorem dcSymbolAtCursor : Obligations.DcSymbolAtCursor := by
  intro i y s tail hv hy hdc ha hrest
  have hexec := exec_symbol_eq_hddc hv hy hdc ha hrest
  refine ⟨hexec.symm, fun hfit => ?_⟩
  rw [hexec, encode_eq_bits hy, exec_hddc_eq_next ha (readSymbol_rest_of_encode hv hy hdc hrest) hfit]

/-- Settles O50: the loop reads the block back to its EOB. -/
theorem hdacDecodesBlock : Obligations.HdacDecodesBlock := by
  intro s l ps b tail hv ha hps hcnt hb hrest hfit
  exact exec_hdac_eq_next ha (by rw [hrest, hdacLoop_block hv hps hcnt hb]) hfit

/-- Settles O51: the symbol at the cursor is `HDAC`, which reads the block of EOB, or of the symbol's pair and EOB (O50). -/
theorem acSymbolAtCursor : Obligations.AcSymbolAtCursor := by
  refine ⟨fun i y s tail hv hy hac ha hrest => exec_symbol_eq_hdac hv hy hac ha hrest,
    fun i e y s tail hv hy hac he hne ha hrest hfit => ?_, fun e l s tail hv he ha hrest => ?_⟩
  · have hpair : pairOf y ≠ eob := fun h =>
      hne (symbol?_inj hy (by rw [eq_of_pairOf_eq_eob hy hac h]; exact he))
    have hcnt : coeffCount [pairOf y] ≤ 63 := by
      have hrun : y.run ≤ 15 := Instr.symbol?_run_le hy
      simp only [coeffCount, pairOf, List.map_cons, List.map_nil, List.sum_cons, List.sum_nil]
      omega
    have hb : encPairs s.params.hTables y.layer 0 ([pairOf y] ++ [eob]) =
        .ok (encode s.params.hTables i ++ encode s.params.hTables e) :=
      encPairs_cons_eq_ok.mpr ⟨_, _, encAc_pairOf hv hy hac, encPairs_cons_eq_ok.mpr
        ⟨_, [], encAc_pairOf hv he rfl, rfl, rfl⟩, by rw [List.append_nil]⟩
    rw [exec_symbol_eq_hdac hv hy hac ha (by rw [hrest, List.append_assoc]),
      hdacDecodesBlock s y.layer [pairOf y] _ tail hv ha (by simpa [eq_comm] using hpair) hcnt hb hrest
        (by rw [Params.fitsAll_iff]; simpa [pairOf] using hfit), List.length_append, ← Nat.add_assoc]
    rfl
  · have hb : encPairs s.params.hTables l 0 ([] ++ [eob]) = .ok (encode s.params.hTables e) :=
      encPairs_cons_eq_ok.mpr ⟨_, [], encAc_pairOf hv he rfl, rfl, by rw [List.append_nil]⟩
    rw [exec_symbol_eq_hdac hv he rfl ha hrest]
    exact hdacDecodesBlock s l [] _ tail hv ha List.not_mem_nil (Nat.zero_le _) hb hrest
      (by rw [Params.fitsAll_iff]; exact List.forall_mem_nil _)

/-- Settles O52: what the reader answers is what `HDDC` raises, and a symbol's rule tests the bits that are left first. -/
theorem symbolFaults : Obligations.SymbolFaults := by
  refine ⟨fun s l ha hread => exec_hddc_eq_raise ha hread, fun s l ha hread => exec_hddc_eq_raise ha hread,
    fun i y s hy ha hlen => ?_⟩
  rw [encode_eq_bits hy] at hlen
  rw [exec_symbol hy]
  exact runCommand_error (symbolRule s.params y) s _ ha.1 (symbolRule_eq_underrun hy ha.layerBlocked hlen)

/-! ### The faults inside a block (45_huffman R212) -/

/-- After the pairs of a block the loop of `HDAC` raises at the symbol that cannot be read. -/
theorem hdacLoop_symbolRaise {h : HTables} (hv : h.valid = true) {l : Layer} {ps : List Pair} (hps : eob ∉ ps)
    (hcnt : coeffCount ps ≤ 63) {b : Bits} (hb : encPairs h l 0 ps = .ok b) {tail : Bits} {e : SymbolFault}
    (hread : readSymbol h .ac l tail = .error e) (p : Nat) :
    hdacLoop h l 64 (b ++ tail) p [] 0 = .error (symbolRaise e (p + b.length) (segIx .ac l)) := by
  have hlen := length_le_coeffCount ps
  have hturns : 64 = (63 - ps.length) + 1 + ps.length := by omega
  rw [hturns, hdacLoop_encPairs hv ps hps hb _ _ _ _ (by omega), hdacLoop_of_error hread]

/-- After the pairs of a block the loop of `HDAC` raises the count of a pair that passes 63. -/
theorem hdacLoop_rleFormat {h : HTables} (hv : h.valid = true) {l : Layer} {ps : List Pair} {q : Pair} (hps : eob ∉ ps)
    (hq : q ≠ eob) (hcnt : coeffCount ps ≤ 63) (hpast : 63 < coeffCount (ps ++ [q])) {b : Bits}
    (hb : encPairs h l 0 (ps ++ [q]) = .ok b) (tail : Bits) (p : Nat) :
    hdacLoop h l 64 (b ++ tail) p [] 0 = .error ⟨.rleFormat, coeffCount (ps ++ [q]), 0⟩ := by
  obtain ⟨b₁, b₂, hb₁, hb₂, rfl⟩ := encPairs_append_eq_ok hb
  obtain ⟨b₃, _, hb₃, hnil, rfl⟩ := encPairs_cons_eq_ok.mp hb₂
  cases hnil
  have hsum : coeffCount (ps ++ [q]) = 0 + coeffCount ps + q.run + 1 := by simp [coeffCount]; omega
  have hlen := length_le_coeffCount ps
  have hturns : 64 = (63 - ps.length) + 1 + ps.length := by omega
  rw [hsum] at hpast ⊢
  rw [hturns, List.append_assoc, hdacLoop_encPairs hv ps hps hb₁ _ _ _ _ (by omega), List.append_nil,
    hdacLoop_of_ok (readSymbol_encAc hv hb₃ tail)]
  simp only [takeAc, pairOf_literal, hq, hpast, if_true, if_false]

/-- Settles O53: the loop goes through the pairs, and its next turn raises the fault. -/
theorem hdacFaults : Obligations.HdacFaults := by
  refine ⟨fun s l ps b tail hv ha hps hcnt hb hrest => ?_, fun s l ps q b tail hv ha hps hq hcnt hpast hb hrest => ?_⟩
  · have hfault : ∀ e, readSymbol s.params.hTables .ac l tail = .error e → exec (.hdac l) s = .next (s.over fun c =>
        takeFault (symbolRaise e (s.mem.cur[segIx .ac l] + b.length) (segIx .ac l)) (countCommand c)) :=
      fun e hread => exec_hdac_eq_raise ha (by rw [hrest, hdacLoop_symbolRaise hv hps hcnt hb hread])
    exact ⟨hfault .underrun, hfault .noMatch⟩
  · exact exec_hdac_eq_raise ha (by rw [hrest, hdacLoop_rleFormat hv hps hq hcnt hpast hb])

end Sys2Proof.Machine

namespace Sys2Proof.Machine

/-! ### The bits of bytes and the bytes of bits (20_memory R63, 47_packer R242) -/

theorem bitsOfByte_byteOf (o : BitOrder) {b : Bits} (h : b.length = 8) : bitsOfByte o (byteOf o b) = b := by
  have hmod : ∀ c : Bits, c.length = 8 → binOf 8 (BitVec.ofNat 8 (valOf c)).toNat = c := fun c hc => by
    have hlt : valOf c < 2 ^ 8 := hc ▸ valOf_lt c
    rw [BitVec.toNat_ofNat, Nat.mod_eq_of_lt hlt, binOf_valOf hc]
  cases o with
  | msbFirst => exact hmod b h
  | lsbFirst => rw [bitsOfByte, byteOf, hmod _ (by rwa [List.length_reverse]), List.reverse_reverse]

theorem bitsOf_bytesOf (o : BitOrder) (n : Nat) (b : Bits) (h : b.length = 8 * n) : bitsOf o (bytesOf o b) = b := by
  induction n generalizing b with
  | zero => rw [List.length_eq_zero_iff.mp h]; rfl
  | succ n ih =>
    match b, h with
    | b0 :: b1 :: b2 :: b3 :: b4 :: b5 :: b6 :: b7 :: t, h =>
      have ht : bitsOf o (bytesOf o t) = t := ih t (by simp only [List.length_cons] at h; omega)
      rw [bitsOf] at ht ⊢
      rw [bytesOf, List.flatMap_cons, bitsOfByte_byteOf o rfl, ht]
      rfl

/-! ### The record `PACK` emits (47_packer R243) -/

/-- The padding fills the last byte (20_memory R66). -/
theorem add_padding (n : Nat) : n + padding n = 8 * ((n + padding n) / 8) := by
  unfold padding; omega

section

variable {ν : Type} (p : Params) (s : CoreState ν)

theorem bitsOf_packRecord : bitsOf p.bitOrder (packRecord p s).data =
    s.activeSegs.flatten ++ List.replicate (padding s.activeSegs.flatten.length) false :=
  bitsOf_bytesOf _ _ _ (by rw [List.length_append, List.length_replicate]; exact add_padding _)

theorem CoreState.length_activeSegs : s.activeSegs.length = s.nseg := by
  have hle : s.nseg ≤ 4 := by unfold CoreState.nseg; split <;> decide
  rw [CoreState.activeSegs, List.length_take, Vector.length_toList, Nat.min_eq_left hle]

theorem CoreState.activeSegs_getD (k : Fin 4) :
    s.activeSegs.getD k.val [] = if k.val < s.nseg then s.mem.seg[k] else [] := by
  rw [CoreState.activeSegs, List.getD_eq_getElem?_getD, List.getElem?_take]
  split
  · simp
  · rfl

end

theorem exec_pack_eq_next {s : State} (h : s.faulted = false) : exec .pack s = .next { s with
    remBits := padding s.activeSegs.flatten.length, bout := s.bout ++ [packRecord s.params s.toCoreState]
    cmdCnt := s.cmdCnt + 1 } :=
  runCommand_ok (rulePack s.params) s _ h rfl

/-- Settles O55: the padded bits are whole bytes, so the bytes' bits are the segments and the padding again. -/
theorem packCommand : Obligations.PackCommand := fun s h =>
  ⟨packRecord s.params s.toCoreState, exec_pack_eq_next h, bitsOf_packRecord _ _, rfl, rfl⟩

/-! ### The pieces `SLICE` cuts (47_packer R244) -/

/-- Each piece is the window at the running offset. -/
theorem cut_getD (ns : List Nat) (b : Bits) (k : Nat) :
    (cut ns b).getD k [] = window b (ns.take k).sum (ns.getD k 0) := by
  induction ns generalizing b k with
  | nil => simp [cut, window]
  | cons n ns ih =>
    cases k with
    | zero => simp [cut, window]
    | succ k =>
      rw [cut, List.getD_cons_succ, ih, window, List.drop_drop, List.take_succ_cons, List.sum_cons, List.getD_cons_succ,
        window]

/-- Segments laid end to end are cut apart again; what follows them is dropped. -/
theorem cut_flatten (segs : List Bits) (tail : Bits) : cut (segs.map List.length) (segs.flatten ++ tail) = segs := by
  induction segs with
  | nil => rfl
  | cons b segs ih =>
    rw [List.map_cons, cut, List.flatten_cons, List.append_assoc, List.take_left, List.drop_left, ih]

theorem sliceSegs_getElem (o : BitOrder) (r : Record) (k : Fin 4) :
    (sliceSegs o r)[k] = (cut (r.sliceLengths.map Int.toNat) (bitsOf o r.data)).getD k.val [] := by
  simp [sliceSegs]

/-- With no negative length the segments are the windows of the record's bits. -/
theorem sliceSegs_eq_windows (o : BitOrder) {r : Record} (h : ∀ n ∈ r.sliceLengths, 0 ≤ n) :
    sliceSegs o r = Vector.ofFn fun k =>
      window (bitsOf o r.data) (r.sliceLengths.take k.val).sum.toNat (r.sliceLengths.getD k.val 0).toNat := by
  obtain ⟨data, rem, lens⟩ := r
  lift lens to List Nat using h
  have htoNat : (lens.map ((↑) : Nat → Int)).map Int.toNat = lens := by simp [Function.comp_def]
  ext1 k hk
  have hsum : ((lens.map ((↑) : Nat → Int)).take k).sum = ((lens.take k).sum : Nat) := by
    rw [← List.map_take, Nat.cast_list_sum]
  have hget : (lens.map ((↑) : Nat → Int)).getD k 0 = (lens.getD k 0 : Nat) := List.getD_map lens 0 Nat.cast
  have hpiece : (sliceSegs o ⟨data, rem, lens.map (↑)⟩)[(⟨k, hk⟩ : Fin 4)] =
      (cut lens (bitsOf o data)).getD k [] := by rw [sliceSegs_getElem, htoNat]
  rw [Vector.getElem_ofFn, hsum, hget, Int.toNat_natCast, Int.toNat_natCast, ← cut_getD]
  exact hpiece

/-- What `PACK` emits is cut into the active segments, and empty ones after them (47_packer R247). -/
theorem sliceSegs_packRecord {ν : Type} (p : Params) (s : CoreState ν) (k : Fin 4) :
    (sliceSegs p.bitOrder (packRecord p s))[k] = if k.val < s.nseg then s.mem.seg[k] else [] := by
  have hlens : (packRecord p s).sliceLengths.map Int.toNat = s.activeSegs.map List.length := by
    simp [packRecord, Function.comp_def]
  rw [sliceSegs_getElem, hlens, bitsOf_packRecord, cut_flatten, s.activeSegs_getD]

/-! ### The rule of `SLICE` (47_packer R244) -/

/-- A sound record with as many lengths as there are active segments passes the four checks. -/
theorem Record.Sound.headerFault_eq_none {r : Record} (h : r.Sound) :
    headerFault r.sliceLengths.length r = none := by
  obtain ⟨-, hnonneg, hrem0, hrem7, hsum⟩ := h
  have hneg : r.sliceLengths.any (fun k => decide (k < 0)) = false := by simpa using hnonneg
  have hrem : ¬(r.remainingBits < 0 ∨ 7 < r.remainingBits) := by omega
  simp [headerFault, hneg, hrem, hsum]

section

variable {s : State} (hf : s.faulted = false)
include hf

theorem exec_slice_eq_seqFault (hbin : s.bin = []) : exec .slice s = .next (s.faultedWith .seq 0x2900 0) :=
  runCommand_seqFault (rule := ruleSlice s.params) hf (by rw [ruleSlice, countCommand_bin, hbin])

variable {r : Record} {rest : List Record} (hbin : s.bin = r :: rest)
include hbin

theorem exec_slice_eq_header {n : Nat} (hheader : headerFault s.nseg r = some n) :
    exec .slice s = .next (s.faultedWith .header n 0) :=
  runCommand_error (ruleSlice s.params) s ⟨.header, n, 0⟩ hf (by
    simp only [ruleSlice, countCommand_bin, countCommand_nseg, hbin, hheader])

theorem exec_slice_eq_next (hheader : headerFault s.nseg r = none)
    (hcap : ∀ k : Fin 4, s.params.holds (sliceSegs s.params.bitOrder r)[k].length = true) :
    exec .slice s = .next { s with
      mem := Memory.load (sliceSegs s.params.bitOrder r), remBits := r.remainingBits.toNat, bin := rest
      cmdCnt := s.cmdCnt + 1 } := by
  have hall : ((sliceSegs s.params.bitOrder r).toList.all fun b => s.params.holds b.length) = true := by
    rw [Vector.all_toList, Vector.all_eq_true]
    exact fun k hk => hcap ⟨k, hk⟩
  exact runCommand_ok (ruleSlice s.params) s _ hf (by
    simp only [ruleSlice, countCommand_bin, countCommand_nseg, hbin, hheader, hall, checkLimit_true]; rfl)

end

/-- Settles O56: the failing check is `headerFault`, and the windows are the pieces the rule cuts. -/
theorem sliceCommand : Obligations.SliceCommand := by
  refine ⟨fun s hf hbin => exec_slice_eq_seqFault hf hbin, fun s r rest hf hbin => ?_⟩
  intro failed segs
  have hfailed : failed = headerFault s.nseg r := by simp [failed, headerFault]
  rw [hfailed]
  refine ⟨fun n hn => exec_slice_eq_header hf hbin hn, fun hnone hcap => ?_⟩
  obtain ⟨-, hnonneg, -⟩ := headerFault_eq_none hnone
  have hsegs : sliceSegs s.params.bitOrder r = segs := sliceSegs_eq_windows s.params.bitOrder hnonneg
  rw [exec_slice_eq_next hf hbin hnone (hsegs ▸ hcap), hsegs, Memory.load]

/-- Settles O57: the packed record passes the four checks, and its pieces are the active segments. -/
theorem packSliceRoundTrip : Obligations.PackSliceRoundTrip := by
  intro s t u r rest hs hpack hbout hu hgrey horder hcap hbin
  rw [exec_pack_eq_next hs] at hpack
  cases hpack
  obtain rfl : packRecord s.params s.toCoreState = r := by simpa using hbout
  have hnseg : u.nseg = (packRecord s.params s.toCoreState).sliceLengths.length := by
    rw [packRecord, List.length_map, s.toCoreState.length_activeSegs, CoreState.nseg, CoreState.nseg, hgrey]
  have hheader : headerFault u.nseg (packRecord s.params s.toCoreState) = none :=
    hnseg ▸ (packRecord_sound s.params s.toCoreState).headerFault_eq_none
  have hsegs : ∀ k : Fin 4, (sliceSegs u.params.bitOrder (packRecord s.params s.toCoreState))[k] =
      if k.val < s.nseg then s.mem.seg[k] else [] := horder ▸ sliceSegs_packRecord s.params s.toCoreState
  have hholds : ∀ k : Fin 4, u.params.holds
      (sliceSegs u.params.bitOrder (packRecord s.params s.toCoreState))[k].length = true := fun k => by
    rw [hsegs]
    split
    · next hk => exact hcap k hk
    · exact u.params.holds_zero
  exact ⟨_, exec_slice_eq_next hu hbin hheader hholds, hu, rfl, rfl, fun k => ⟨by simp [Memory.load], hsegs k⟩⟩

end Sys2Proof.Machine

namespace Sys2Proof.Machine

/-! ### The command stream (48_dispatcher R260) -/

theorem step_of_decodeWord {s : State} {w : Word} {rest : List Word} {i : Instr} (h : s.cmdIn = w :: rest)
    (hd : decodeWord w = some i) : step s = exec i { s with cmdIn := rest } := by
  simp only [step, fetch, h, hd]

theorem step_of_reserved {s : State} {w : Word} {rest : List Word} (h : s.cmdIn = w :: rest)
    (hd : decodeWord w = none) : step s = reservedWord w { s with cmdIn := rest } := by
  simp only [step, fetch, h, hd]

/-- Settles O1: the fetched word is decoded, and the instruction runs on the state `fetch` leaves. -/
theorem stepRunsDecodedCommand : Obligations.StepRunsDecodedCommand :=
  fun _ _ _ _ => step_of_decodeWord

/-- Settles O2: a reserved word is a command whose rule raises `E_ILLEGAL`. -/
theorem stepWithoutCommand : Obligations.StepWithoutCommand := by
  refine ⟨fun s w rest h hd hf => ?_, fun s w rest h hd hf => ?_, fun s h => ?_⟩
  · rw [step_of_reserved h hd]
    exact runCommand_error (ruleReserved w) _ ⟨.illegal, w.toNat, 0⟩ hf rfl
  · rw [step_of_reserved h hd]
    exact runCommand_faulted (ruleReserved w) _ hf
  · simp only [step, fetch, h]

/-! ### Housekeeping and the ports (48_dispatcher R262 to R267) -/

/-- Settles O23: `NOP` has the rule that answers the counted state, and while `FAULTED` a command only counts. -/
theorem nopOnlyCounts : Obligations.NopOnlyCounts := by
  intro s
  rcases Bool.eq_false_or_eq_true s.faulted with hf | hf
  · exact runCommand_faulted (fun t => .ok t) s hf
  · exact runCommand_ok (fun t => .ok t) s _ hf rfl

/-- `CLR` clears the counted state to the reset state, but for the data registers' contents and what R263 keeps. -/
theorem exec_clr_eq_reset (s : State) : ∃ t, exec .clr s = .next t ∧
    t = { State.reset with
          xb := t.xb, qb := t.qb, zq := t.zq, diff := t.diff, rl := t.rl, cmdCnt := s.cmdCnt + 1, xin := s.xin,
          xout := s.xout, bin := s.bin, bout := s.bout, params := s.params, cmdIn := s.cmdIn } :=
  ⟨_, exec_clr s, rfl⟩

/-- Settles O24: after the host's part the only word on the port is that of `CLR`, so the step is the first clause. -/
theorem clrStartsSession : Obligations.ClrStartsSession := by
  refine ⟨exec_clr_eq_reset, fun s blocks records results hport => ?_⟩
  have hword : (hostAfterFault blocks records results s).2.cmdIn = 0x0100#16 :: [] := by
    simp [hostAfterFault, hostIssue, hostDiscard, hport]
  rw [step_of_decodeWord hword rfl]
  obtain ⟨t, ht, hreset⟩ := exec_clr_eq_reset { (hostAfterFault blocks records results s).2 with cmdIn := [] }
  exact ⟨t, ht, hreset⟩

section

variable {ν : Type} {s : CoreState ν}

theorem ruleCfgq_eq_ok {q : Nat} (h : 1 ≤ q ∧ q ≤ 95) : ruleCfgq q s = .ok { s with quality := q } :=
  if_pos h

theorem ruleCfgq_eq_error {q : Nat} (h : ¬(1 ≤ q ∧ q ≤ 95)) : ruleCfgq q s = .error ⟨.param, q, 0⟩ :=
  if_neg h

theorem ruleStx_eq_ok (h : s.vx = true) : ruleStx s = .ok { s with xout := s.xout ++ [s.xb] } :=
  if_pos h

theorem ruleStx_eq_seqFault (h : s.vx = false) : ruleStx s = .error (seqFault 0x0900) := by
  simp [ruleStx, h]

end

/-- Settles O25: `CFGQ` completes exactly on the range of R264, and `CFGG` always. -/
theorem configurationCommands : Obligations.ConfigurationCommands :=
  ⟨fun s _ hf hlow hhigh => runCommand_ok _ s _ hf (ruleCfgq_eq_ok ⟨hlow, hhigh⟩),
    fun s q hf h => runCommand_error _ s _ hf (ruleCfgq_eq_error (q := q) (by omega)),
    fun s g hf => runCommand_ok (ruleCfgg g) s _ hf rfl⟩

/-- Settles O26: each port command completes on its one condition, and raises `E_SEQ` with its word otherwise. -/
theorem portCommands : Obligations.PortCommands :=
  ⟨fun s _ _ hf hx => runCommand_ok ruleLdx s _ hf (ruleLdx_cons hx),
    fun _ hf hx => runCommand_seqFault hf (ruleLdx_nil hx),
    fun s hf hv => runCommand_ok ruleStx s _ hf (ruleStx_eq_ok hv),
    fun _ hf hv => runCommand_seqFault hf (ruleStx_eq_seqFault hv)⟩

end Sys2Proof.Machine

namespace Sys2Proof.Machine

/-! ### What `CMDCNT` is to a rule (10_state R27, 48_dispatcher R272) -/

/-- The state with `CMDCNT` as given. -/
def CoreState.recount {ν : Type} (k : Nat) (s : CoreState ν) : CoreState ν :=
  { s with cmdCnt := k }

/-- Where the first effect is a completion, the second is the same one with `CMDCNT = k`. -/
def Effect.Recounts {ν : Type} (k : Nat) (e e' : Effect ν) : Prop :=
  ∀ t, e = .ok t → e' = .ok (t.recount k)

/-- The rule completes whatever `CMDCNT` is, and hands it on. -/
def CountFree {ν : Type} (rule : CoreState ν → Effect ν) : Prop :=
  ∀ s k, Effect.Recounts k (rule s) (rule (s.recount k))

section

variable {ν : Type} (k : Nat)

@[simp] theorem Effect.recounts_error (r : Raise) (e : Effect ν) : Effect.Recounts k (.error r) e :=
  fun _ h => by cases h

@[simp] theorem Effect.recounts_ok (t : CoreState ν) (e : Effect ν) :
    Effect.Recounts k (.ok t) e ↔ e = .ok (t.recount k) :=
  ⟨fun h => h t rfl, fun h _ ht => by cases ht; exact h⟩

@[simp] theorem Effect.recounts_checkLimit (c : Limit) (b : Bool) (t : CoreState ν) :
    Effect.Recounts k (checkLimit c b t) (checkLimit c b (t.recount k)) := by
  cases b <;> simp

variable (s : CoreState ν)

@[simp] theorem recount_xb : (s.recount k).xb = s.xb := rfl
@[simp] theorem recount_qb : (s.recount k).qb = s.qb := rfl
@[simp] theorem recount_zq : (s.recount k).zq = s.zq := rfl
@[simp] theorem recount_diff : (s.recount k).diff = s.diff := rfl
@[simp] theorem recount_rl : (s.recount k).rl = s.rl := rfl
@[simp] theorem recount_vx : (s.recount k).vx = s.vx := rfl
@[simp] theorem recount_vq : (s.recount k).vq = s.vq := rfl
@[simp] theorem recount_vz0 : (s.recount k).vz0 = s.vz0 := rfl
@[simp] theorem recount_vza : (s.recount k).vza = s.vza := rfl
@[simp] theorem recount_vd : (s.recount k).vd = s.vd := rfl
@[simp] theorem recount_vr : (s.recount k).vr = s.vr := rfl
@[simp] theorem recount_quality : (s.recount k).quality = s.quality := rfl
@[simp] theorem recount_mem : (s.recount k).mem = s.mem := rfl
@[simp] theorem recount_xin : (s.recount k).xin = s.xin := rfl
@[simp] theorem recount_layerBlocked (l : Layer) : (s.recount k).layerBlocked l = s.layerBlocked l := rfl
@[simp] theorem recount_predOf (l : Layer) : (s.recount k).predOf l = s.predOf l := by
  cases l <;> rfl

@[simp] theorem writeXb_recount (b : Block ν) : writeXb b (s.recount k) = (writeXb b s).recount k := rfl
@[simp] theorem writeQb_recount (b : Block Int) : writeQb b (s.recount k) = (writeQb b s).recount k := rfl
@[simp] theorem writeZq_recount (z : Vector Int 64) : writeZq z (s.recount k) = (writeZq z s).recount k := rfl
@[simp] theorem writeZq0_recount (v : Int) : writeZq0 v (s.recount k) = (writeZq0 v s).recount k := rfl
@[simp] theorem writeZqAc_recount (ac : List Int) : writeZqAc ac (s.recount k) = (writeZqAc ac s).recount k := rfl
@[simp] theorem writeDiff_recount (v : Int) : writeDiff v (s.recount k) = (writeDiff v s).recount k := rfl
@[simp] theorem writeRl_recount (l : List Pair) : writeRl l (s.recount k) = (writeRl l s).recount k := rfl
@[simp] theorem setPred_recount (l : Layer) (v : Int) : setPred l v (s.recount k) = (setPred l v s).recount k := by
  cases l <;> rfl

end

end Sys2Proof.Machine

namespace Sys2Proof.Machine
section

variable {ν : Type} (p : Params) (n : NumSystem ν) (l : Layer)

theorem ruleLdx_countFree : CountFree (ν := ν) ruleLdx := by
  intro s k; unfold ruleLdx; split <;> simp [*]; rfl

theorem ruleStx_countFree : CountFree (ν := ν) ruleStx := by
  intro s k; unfold ruleStx; split <;> simp [*]; rfl

theorem ruleFdct_countFree : CountFree (ruleFdct n) := by
  intro s k; unfold ruleFdct; split <;> simp [*]

theorem ruleIdct_countFree : CountFree (ruleIdct n) := by
  intro s k; unfold ruleIdct; split <;> simp [*]

theorem ruleQnt_countFree : CountFree (ruleQnt p n l) := by
  intro s k
  simp only [ruleQnt, recount_layerBlocked, recount_quality, recount_vx]
  split_ifs <;> simp [*]

theorem ruleDqt_countFree : CountFree (ruleDqt p n l) := by
  intro s k
  simp only [ruleDqt, recount_layerBlocked, recount_quality, recount_vq]
  split_ifs <;> simp [*]

theorem ruleZz_countFree : CountFree (ν := ν) ruleZz := by
  intro s k; unfold ruleZz; split <;> simp [*]

theorem ruleIzz_countFree : CountFree (ν := ν) ruleIzz := by
  intro s k; unfold ruleIzz; split <;> simp_all

theorem ruleDce_countFree : CountFree (ν := ν) (ruleDce p l) := by
  intro s k
  simp only [ruleDce, recount_layerBlocked, recount_vz0]
  split_ifs <;> simp [*]

theorem ruleDcd_countFree : CountFree (ν := ν) (ruleDcd p l) := by
  intro s k
  simp only [ruleDcd, recount_layerBlocked, recount_vd]
  split_ifs <;> simp [*]

theorem ruleRle_countFree : CountFree (ν := ν) ruleRle := by
  intro s k; unfold ruleRle; split <;> simp [*]

theorem ruleRld_countFree : CountFree (ν := ν) ruleRld := by
  intro s k
  unfold ruleRld
  split
  · split
    · simp
    · split <;> simp [*]
  · simp

@[simp] theorem appendBits_recounts (j : Fin 4) (b : Bits) (s : CoreState ν) (k : Nat) :
    Effect.Recounts k (appendBits p j b s) (appendBits p j b (s.recount k)) :=
  Effect.recounts_checkLimit k _ _ _

theorem ruleHedc_countFree : CountFree (ν := ν) (ruleHedc p l) := by
  intro s k
  unfold ruleHedc
  split
  · simp
  · split
    · split
      · split <;> simp [*]
      · simp
    · simp

theorem ruleHeac_countFree : CountFree (ν := ν) (ruleHeac p l) := by
  intro s k
  unfold ruleHeac
  split
  · simp
  · split
    · split <;> simp [*]
    · simp

@[simp] theorem takeDc_recounts (y : Symbol) (m : Nat) (s : CoreState ν) (k : Nat) :
    Effect.Recounts k (takeDc p l y m s) (takeDc p l y m (s.recount k)) :=
  Effect.recounts_checkLimit k _ _ _

@[simp] theorem commitAc_recounts (r : Except Raise (List Pair × Nat)) (s : CoreState ν) (k : Nat) :
    Effect.Recounts k (commitAc p l r s) (commitAc p l r (s.recount k)) := by
  cases r with
  | error r => simp [commitAc]
  | ok out => exact Effect.recounts_checkLimit k _ _ _

theorem ruleHddc_countFree : CountFree (ν := ν) (ruleHddc p l) := by
  intro s k
  simp only [ruleHddc]
  split
  · simp
  · split <;> simp [*]

theorem ruleHdac_countFree : CountFree (ν := ν) (ruleHdac p l) := by
  intro s k; simp only [ruleHdac]; split <;> simp [*]

end

end Sys2Proof.Machine

namespace Sys2Proof.Machine

/-! ### A command and its rule, and commands one after another (48_dispatcher R272) -/

/-- While the parameters are `p`, the command's meaning is the command step around the rule; the rule takes no notice of
`CMDCNT` and leaves what the command step writes alone. -/
structure RunsRule (p : Params) (i : Instr) (rule : CoreState NUM → Effect NUM) : Prop where
  exec_eq : ∀ s : State, s.params = p → exec i s = runCommand rule s
  countFree : CountFree rule
  keeps : ∀ u, Effect.KeepsBookkeeping u (rule u)

theorem CountFree.runsRule {p : Params} {i : Instr} {rule : CoreState NUM → Effect NUM} (h : CountFree rule)
    (hsym : i.symbol? = none) (hrule : commandRule? p exactSystem i = some rule) : RunsRule p i rule where
  exec_eq := fun s hp => by rw [exec_eq_coreExec, coreExec_command hsym (hp.symm ▸ hrule), runCommand_eq]
  countFree := h
  keeps := fun u => commandRule?_keepsBookkeeping u p exactSystem hrule

/-- The machine whose architectural state is `c` with `CMDCNT = k`, and whose parameters and port are those of `s`. -/
def State.countedAs (s : State) (c : CoreState NUM) (k : Nat) : State :=
  { s with toCoreState := c.recount k }

section

variable {p : Params} {s u : State} {c : CoreState NUM} {k : Nat} {i : Instr} {rule : CoreState NUM → Effect NUM}

theorem RunsRule.exec_eq_next (h : RunsRule p i rule) (hp : s.params = p) (hf : c.faulted = false)
    {t : CoreState NUM} (ht : rule c = .ok t) :
    exec i (s.countedAs c k) = .next (s.countedAs t (k + 1)) ∧ t.faulted = false :=
  ⟨(h.exec_eq (s.countedAs c k) hp).trans (runCommand_ok rule _ _ hf (h.countFree c (k + 1) t ht)),
    (congrArg (fun b => b.2.1) (h.keeps c t ht)).trans hf⟩

/-- A command whose rule raises leaves the machine `FAULTED`: the rule does not complete for another `CMDCNT` either. -/
theorem RunsRule.faulted_of_error (h : RunsRule p i rule) (hp : s.params = p) {r : Raise} (hr : rule c = .error r)
    (hu : exec i (s.countedAs c k) = .next u) : u.faulted = true := by
  rw [h.exec_eq (s.countedAs c k) hp] at hu
  obtain ⟨-, -, ⟨hf, hcore⟩ | ⟨-, hok⟩ | ⟨-, r, -, hcore⟩⟩ := runCommand_cases rule _ u hu
  · rw [hcore]; exact hf
  · have hback := h.countFree _ c.cmdCnt _ hok
    exact absurd (hr.symm.trans hback) nofun
  · rw [hcore]; rfl

theorem RunsRule.keeps_faulted (h : RunsRule p i rule) (hp : s.params = p) (hf : s.faulted = true) :
    exec i s = .next (s.over countCommand) :=
  (h.exec_eq s hp).trans (runCommand_faulted rule s hf)

variable {is : List Instr} {rules : List (CoreState NUM → Effect NUM)}

/-- After a fault the commands that follow are ignored (60_exceptions R305). -/
theorem execList_keeps_faulted (h : List.Forall₂ (RunsRule p) is rules) (hp : s.params = p) (hf : s.faulted = true)
    (hu : execList is s = .next u) : u.faulted = true := by
  induction h generalizing s with
  | nil => cases hu; exact hf
  | cons hi _ ih =>
    simp only [execList, hi.keeps_faulted hp hf] at hu
    exact ih (s := s.over countCommand) hp hf hu

theorem foldl_andThen_error {ν : Type} (r : Raise) (rules : List (CoreState ν → Effect ν)) :
    rules.foldl andThen (.error r) = .error r := by
  induction rules with
  | nil => rfl
  | cons _ _ ih => exact ih

/-- Commands one by one end without a fault exactly when their rules in a row complete; each has counted once. -/
theorem execList_eq_next_iff (h : List.Forall₂ (RunsRule p) is rules) (hp : s.params = p) (hf : c.faulted = false) :
    (execList is (s.countedAs c k) = .next u ∧ u.faulted = false) ↔
      ∃ t, rules.foldl andThen (.ok c) = .ok t ∧ u = s.countedAs t (k + rules.length) := by
  induction h generalizing c k with
  | nil =>
    constructor
    · rintro ⟨hu, -⟩
      cases hu
      exact ⟨c, rfl, rfl⟩
    · rintro ⟨t, ht, rfl⟩
      cases ht
      exact ⟨rfl, hf⟩
  | @cons i rule is rules hi h ih =>
    rw [List.foldl_cons, andThen_ok]
    cases hr : rule c with
    | ok t =>
      obtain ⟨hexec, hft⟩ := hi.exec_eq_next (k := k) hp hf hr
      simp only [execList, hexec, ih hft, List.length_cons, Nat.add_assoc, Nat.add_comm 1]
    | error r =>
      rw [foldl_andThen_error]
      refine ⟨fun ⟨hu, hfu⟩ => ?_, fun ⟨_, ht, _⟩ => by cases ht⟩
      have hexec := exec_eq_coreExec i (s.countedAs c k)
      rw [execList, hexec] at hu
      have hfault := execList_keeps_faulted h (by exact hp) (hi.faulted_of_error hp hr hexec) hu
      exact absurd (hfault.symm.trans hfu) nofun

/-- A command whose rule completes as the rules of other commands do in a row leaves what they leave one by one, and
they what it leaves, but for `CMDCNT` (48_dispatcher R272). -/
theorem RunsRule.composite (h : RunsRule s.params i rule) (hs : List.Forall₂ (RunsRule s.params) is rules)
    (hf : s.faulted = false)
    (hiff : ∀ t, rule s.toCoreState = .ok t ↔ rules.foldl andThen (.ok s.toCoreState) = .ok t) :
    (∀ u : State, execList is s = .next u → u.faulted = false →
      exec i s = .next { u with cmdCnt := s.cmdCnt + 1 }) ∧
    (∀ u : State, exec i s = .next u → u.faulted = false →
      execList is s = .next { u with cmdCnt := s.cmdCnt + rules.length }) := by
  refine ⟨fun u hu hfu => ?_, fun u hu hfu => ?_⟩
  · obtain ⟨t, ht, rfl⟩ := (execList_eq_next_iff hs rfl (c := s.toCoreState) (k := s.cmdCnt) hf).mp ⟨hu, hfu⟩
    exact (h.exec_eq_next (k := s.cmdCnt) rfl hf ((hiff t).mpr ht)).1
  · cases ht : rule s.toCoreState with
    | ok t =>
      rw [← Host.Outcome.next.inj ((h.exec_eq_next (k := s.cmdCnt) rfl hf ht).1.symm.trans hu)]
      exact ((execList_eq_next_iff hs rfl (k := s.cmdCnt) hf).mpr ⟨t, (hiff t).mp ht, rfl⟩).1
    | error r => exact absurd ((h.faulted_of_error (k := s.cmdCnt) rfl ht hu).symm.trans hfu) nofun

end
end Sys2Proof.Machine

namespace Sys2Proof.Machine

/-! ### What `RLE` makes can be coded (44_rle_coder R181, 45_huffman R205) -/

/-- The pairs `RLE` makes: EOB, ZRL, and runs of at most 15 zeros before a coefficient that is not zero. -/
theorem mem_rleFrom {run : Nat} {ac : List Int} {q : Pair} (h : q ∈ rleFrom run ac) :
    q = eob ∨ q = zrl ∨ (q.run ≤ 15 ∧ q.value ≠ 0 ∧ q.value ∈ ac) := by
  induction ac generalizing run with
  | nil => exact .inl (List.mem_singleton.mp h)
  | cons v t ih =>
    rw [rleFrom] at h
    split at h
    · exact (ih h).imp_right (.imp_right fun ⟨hrun, hne, hmem⟩ => ⟨hrun, hne, List.mem_cons_of_mem v hmem⟩)
    · next hv =>
      rcases List.mem_append.mp h with hz | h
      · exact .inr (.inl (List.eq_of_mem_replicate hz))
      · rcases List.mem_cons.mp h with rfl | h
        · exact .inr (.inr ⟨Nat.le_of_lt_succ (Nat.mod_lt run (by decide)), hv, List.mem_cons_self⟩)
        · exact (ih h).imp_right (.imp_right fun ⟨hrun, hne, hmem⟩ => ⟨hrun, hne, List.mem_cons_of_mem v hmem⟩)

/-- Coefficients within -1023..1023 can all be coded (O46). -/
theorem exists_encPairs_rleFrom {h : HTables} (hv : h.valid = true) (l : Layer) {z : Vector Int 64}
    (hz : ∀ k : Fin 64, k ≠ 0 → -1023 ≤ z[k] ∧ z[k] ≤ 1023) :
    ∃ b, encPairs h l 0 (rleFrom 0 (acOf z)) = .ok b := by
  have hac : ∀ v ∈ acOf z, -1023 ≤ v ∧ v ≤ 1023 := by
    intro v hmem
    obtain ⟨k, hk, rfl⟩ := List.getElem_of_mem hmem
    rw [length_acOf] at hk
    have := hz ⟨k + 1, by omega⟩ (Fin.ne_of_val_ne (Nat.succ_ne_zero k))
    simpa [acOf] using this
  refine ⟨_, encPairs_ok h l _ 0 fun q hq => ((encodableValues h hv).2 q l).mpr ?_⟩
  exact (mem_rleFrom hq).imp_right (.imp_right fun ⟨hrun, hne, hmem⟩ => ⟨hrun, hne, hac _ hmem⟩)

end Sys2Proof.Machine

namespace Sys2Proof.Machine

/-! ### The steps of `ENCBLK` (48_dispatcher R270) -/

theorem ruleHedc_eq_appendBits {ν : Type} {p : Params} {l : Layer} {s : CoreState ν} {b : Bits}
    (hl : s.layerBlocked l = false) (hvd : s.vd = true) (hrange : -2047 ≤ s.diff ∧ s.diff ≤ 2047)
    (hb : encDc p.hTables s.diff l = some b) : ruleHedc p l s = appendBits p (segIx .dc l) b s := by
  simp [ruleHedc, hl, hvd, hrange, hb]

theorem ruleHeac_eq_appendBits {ν : Type} {p : Params} {l : Layer} {s : CoreState ν} {b : Bits}
    (hl : s.layerBlocked l = false) (hvr : s.vr = true) (hb : encPairs p.hTables l 0 s.rl = .ok b) :
    ruleHeac p l s = appendBits p (segIx .ac l) b s := by
  simp [ruleHeac, hl, hvr, hb]

/-- What `LDX ; FDCT` leave, when the block taken is `b`. -/
def transformedState {ν : Type} (n : NumSystem ν) (b : Block ν) (rest : List (Block ν)) (s : CoreState ν) :
    CoreState ν :=
  writeXb (n.fdct b) { s with xin := rest }

/-- What `QNT L ; ZZ ; DCE L` leave, when the quantized values are `q` and the difference is `d`. -/
def differencedState {ν : Type} (l : Layer) (q : Block Int) (d : Int) (s : CoreState ν) : CoreState ν :=
  setPred l (zigzag q)[0] (writeDiff d (writeZq (zigzag q) (writeQb q s)))

/-- What `HEDC L` leaves, when the difference is coded as `bd`. -/
def dcAppendedState {ν : Type} (l : Layer) (bd : Bits) (s : CoreState ν) : CoreState ν :=
  { s with mem := s.mem.append (segIx .dc l) bd }

/-- What `QNT L ; ZZ ; DCE L ; HEDC L ; RLE` leave. -/
def runLengthState {ν : Type} (l : Layer) (q : Block Int) (d : Int) (bd : Bits) (s : CoreState ν) : CoreState ν :=
  writeRl (rleFrom 0 (acOf (zigzag q))) (dcAppendedState l bd (differencedState l q d s))

/-- What `ENCBLK L` leaves, when the AC pairs are coded as `ba`. -/
def encodedState {ν : Type} (l : Layer) (q : Block Int) (d : Int) (bd ba : Bits) (s : CoreState ν) : CoreState ν :=
  { runLengthState l q d bd s with mem := (s.mem.append (segIx .dc l) bd).append (segIx .ac l) ba }

section

variable {ν : Type} (l : Layer) (q : Block Int) (d : Int) (s : CoreState ν)

@[simp] theorem differencedState_layerBlocked : (differencedState l q d s).layerBlocked l = s.layerBlocked l := by
  simp [CoreState.layerBlocked, differencedState]

@[simp] theorem differencedState_diff : (differencedState l q d s).diff = d := by
  simp [differencedState]

@[simp] theorem differencedState_vd : (differencedState l q d s).vd = true := by
  simp [differencedState]

@[simp] theorem differencedState_zq : (differencedState l q d s).zq = zigzag q := by
  simp [differencedState]

@[simp] theorem differencedState_vza : (differencedState l q d s).vza = true := by
  simp [differencedState]

@[simp] theorem differencedState_mem : (differencedState l q d s).mem = s.mem := by
  simp [differencedState]

@[simp] theorem differencedState_cmdCnt : (differencedState l q d s).cmdCnt = s.cmdCnt := by
  simp [differencedState]

@[simp] theorem runLengthState_layerBlocked (bd : Bits) :
    (runLengthState l q d bd s).layerBlocked l = s.layerBlocked l := by
  simp [CoreState.layerBlocked, runLengthState, dcAppendedState, differencedState]

@[simp] theorem encodedState_cmdCnt (bd ba : Bits) : (encodedState l q d bd ba s).cmdCnt = s.cmdCnt := by
  simp [encodedState, runLengthState, dcAppendedState]

@[simp] theorem runLengthState_vr (bd : Bits) : (runLengthState l q d bd s).vr = true := rfl

@[simp] theorem runLengthState_rl (bd : Bits) :
    (runLengthState l q d bd s).rl = rleFrom 0 (acOf (zigzag q)) := by
  rw [runLengthState, writeRl_rl]

@[simp] theorem runLengthState_mem (bd : Bits) : (runLengthState l q d bd s).mem = s.mem.append (segIx .dc l) bd := by
  simp [runLengthState, dcAppendedState]

theorem segIx_dc_ne_ac : segIx .dc l ≠ segIx .ac l := by
  cases l <;> decide

/-- An append leaves the lengths of the other segments. -/
theorem Memory.len_append_of_ne {j k : Fin 4} (h : j ≠ k) (m : Memory) (b : Bits) :
    (m.append j b).len k = m.len k := by
  rw [Memory.len, Memory.append_seg, if_neg h, Memory.len]

end

section

variable {ν : Type} {p : Params} {n : NumSystem ν} {l : Layer} {s : CoreState ν} {b : Block ν} {rest : List (Block ν)}

theorem ruleQnt_eq_checkLimit (hl : s.layerBlocked l = false) (hq : s.quality ≠ 0) (hvx : s.vx = true) :
    ruleQnt p n l s = checkLimit .intWidth (p.fitsAll (quantize p n l s.quality s.xb).toList)
      (writeQb (quantize p n l s.quality s.xb) s) := by
  simp [ruleQnt, hl, hq, hvx]

theorem ruleDce_eq_checkLimit (hl : s.layerBlocked l = false) (hvz : s.vz0 = true) :
    ruleDce p l s = checkLimit .intWidth (p.fits (s.zq[0] - s.predOf l))
      (setPred l s.zq[0] (writeDiff (s.zq[0] - s.predOf l) s)) := by
  simp [ruleDce, hl, hvz]

theorem ruleEncblk_eq_seqFault (h : s.layerBlocked l = true ∨ s.quality = 0 ∨ s.xin = []) :
    ruleEncblk p n l s = .error (seqFault (0x3000 + l.code)) := by
  rcases h with h | h | h <;> simp [ruleEncblk, h]

theorem ruleEncblk_eq_chain (hl : s.layerBlocked l = false) (hq : s.quality ≠ 0) (hx : s.xin ≠ []) :
    ruleEncblk p n l s = encodeChain p n l s := by
  simp [ruleEncblk, hl, hq, hx]

theorem encodeChain_transformed (hx : s.xin = b :: rest) :
    encodeChain p n l s = andThen (andThen (andThen (andThen (andThen (ruleQnt p n l (transformedState n b rest s))
      ruleZz) (ruleDce p l)) (ruleHedc p l)) ruleRle) (ruleHeac p l) := by
  rw [encodeChain, ruleLdx_cons hx, andThen_ok, ruleFdct_of_vx n rfl, andThen_ok]; rfl

end

/-- `ENCBLK L` gets past its own checks in `s`: it takes the block `b` from `XIN`, whose quantized values are `q` and whose
DC difference is `d`. -/
structure CoreState.Encodes {ν : Type} (p : Params) (n : NumSystem ν) (l : Layer) (s : CoreState ν) (b : Block ν)
    (rest : List (Block ν)) (q : Block Int) (d : Int) : Prop where
  layer : s.layerBlocked l = false
  quality : s.quality ≠ 0
  xin : s.xin = b :: rest
  quantized : quantize p n l s.quality (n.fdct b) = q
  difference : (zigzag q)[0] - s.predOf l = d

section

variable {ν : Type} {p : Params} {n : NumSystem ν} {l : Layer} {s : CoreState ν} {b : Block ν} {rest : List (Block ν)}
  {q : Block Int} {d : Int} {bd : Bits} (h : s.Encodes p n l b rest q d)
include h

theorem CoreState.Encodes.ruleEncblk_transformed :
    ruleEncblk p n l s = andThen (andThen (andThen (andThen (andThen (checkLimit .intWidth (p.fitsAll q.toList)
      (writeQb q (transformedState n b rest s))) ruleZz) (ruleDce p l)) (ruleHedc p l)) ruleRle) (ruleHeac p l) := by
  have hqnt := ruleQnt_eq_checkLimit (p := p) (n := n) (s := transformedState n b rest s) h.layer h.quality rfl
  rw [show quantize p n l (transformedState n b rest s).quality (transformedState n b rest s).xb = q from
    h.quantized] at hqnt
  rw [ruleEncblk_eq_chain h.layer h.quality (by simp [h.xin]), encodeChain_transformed h.xin, hqnt]

theorem CoreState.Encodes.ruleEncblk_of_not_fitsAll (hfits : p.fitsAll q.toList = false) :
    ruleEncblk p n l s = .error (limitFault .intWidth s.cmdCnt) := by
  rw [h.ruleEncblk_transformed, hfits]; rfl

variable (hfits : p.fitsAll q.toList = true)
include hfits

theorem CoreState.Encodes.ruleEncblk_differenced :
    ruleEncblk p n l s = andThen (andThen (andThen (checkLimit .intWidth (p.fits d)
      (differencedState l q d (transformedState n b rest s))) (ruleHedc p l)) ruleRle) (ruleHeac p l) := by
  have hdce := ruleDce_eq_checkLimit (p := p) (s := writeZq (zigzag q) (writeQb q (transformedState n b rest s)))
    h.layer rfl
  have hpred : (writeZq (zigzag q) (writeQb q (transformedState n b rest s))).predOf l = s.predOf l := by
    cases l <;> rfl
  rw [hpred, writeZq_zq, h.difference] at hdce
  rw [h.ruleEncblk_transformed, hfits, checkLimit_true, andThen_ok, ruleZz_eq_ok rfl, andThen_ok, writeQb_qb, hdce,
    differencedState]

theorem CoreState.Encodes.ruleEncblk_of_not_fits (hfit : p.fits d = false) :
    ruleEncblk p n l s = .error (limitFault .intWidth s.cmdCnt) := by
  rw [h.ruleEncblk_differenced hfits, hfit, checkLimit_false, differencedState_cmdCnt]; rfl

variable (hfit : p.fits d = true)
include hfit

theorem CoreState.Encodes.ruleEncblk_of_dcRange (hrange : d < -2047 ∨ 2047 < d) :
    ruleEncblk p n l s = .error ⟨.dcRange, d, 0⟩ := by
  have hhedc := ruleHedc_eq_error (p := p) (s := differencedState l q d (transformedState n b rest s))
    ((differencedState_layerBlocked l q d _).trans h.layer) (differencedState_vd l q d _)
    (by rw [differencedState_diff]; omega)
  rw [h.ruleEncblk_differenced hfits, hfit, checkLimit_true, andThen_ok, hhedc, differencedState_diff]; rfl

variable (hrange : -2047 ≤ d ∧ d ≤ 2047) (hbd : encDc p.hTables d l = some bd)
include hrange hbd

theorem CoreState.Encodes.ruleEncblk_dcAppended :
    ruleEncblk p n l s = andThen (andThen (checkLimit .segCap (p.holds (s.mem.len (segIx .dc l) + bd.length))
      (dcAppendedState l bd (differencedState l q d (transformedState n b rest s)))) ruleRle) (ruleHeac p l) := by
  have hhedc := ruleHedc_eq_appendBits (p := p) (s := differencedState l q d (transformedState n b rest s))
    ((differencedState_layerBlocked l q d _).trans h.layer) (differencedState_vd l q d _)
    (by rw [differencedState_diff]; exact hrange) (by rw [differencedState_diff]; exact hbd)
  rw [h.ruleEncblk_differenced hfits, hfit, checkLimit_true, andThen_ok, hhedc, appendBits, differencedState_mem,
    dcAppendedState, differencedState_mem]
  rfl

theorem CoreState.Encodes.ruleEncblk_of_not_holds (hcap : p.holds (s.mem.len (segIx .dc l) + bd.length) = false) :
    ruleEncblk p n l s = .error (limitFault .segCap s.cmdCnt) := by
  rw [h.ruleEncblk_dcAppended hfits hfit hrange hbd, hcap, checkLimit_false, dcAppendedState, differencedState_cmdCnt]
  rfl

variable (hcap : p.holds (s.mem.len (segIx .dc l) + bd.length) = true)
include hcap

theorem CoreState.Encodes.ruleEncblk_runLength :
    ruleEncblk p n l s = ruleHeac p l (runLengthState l q d bd (transformedState n b rest s)) := by
  have hrle := ruleRle_eq_ok (s := dcAppendedState l bd (differencedState l q d (transformedState n b rest s)))
    (differencedState_vza l q d _)
  rw [h.ruleEncblk_dcAppended hfits hfit hrange hbd, hcap, checkLimit_true, andThen_ok, hrle, andThen_ok]
  simp only [runLengthState, dcAppendedState, differencedState_zq]

theorem CoreState.Encodes.ruleEncblk_of_acRange {k : Nat}
    (hba : encPairs p.hTables l 0 (rleFrom 0 (acOf (zigzag q))) = .error k) :
    ruleEncblk p n l s = .error ⟨.acRange, k, 0⟩ := by
  have hl := (runLengthState_layerBlocked l q d (transformedState n b rest s) bd).trans h.layer
  rw [h.ruleEncblk_runLength hfits hfit hrange hbd hcap, ruleHeac_eq_error hl (runLengthState_vr ..)
    ((congrArg _ (runLengthState_rl ..)).trans hba)]

theorem CoreState.Encodes.ruleEncblk_acAppended {ba : Bits}
    (hba : encPairs p.hTables l 0 (rleFrom 0 (acOf (zigzag q))) = .ok ba) :
    ruleEncblk p n l s = checkLimit .segCap (p.holds (s.mem.len (segIx .ac l) + ba.length))
      (encodedState l q d bd ba (transformedState n b rest s)) := by
  have hl := (runLengthState_layerBlocked l q d (transformedState n b rest s) bd).trans h.layer
  have hlen : (runLengthState l q d bd (transformedState n b rest s)).mem.len (segIx .ac l) =
      s.mem.len (segIx .ac l) := by
    rw [runLengthState_mem, Memory.len_append_of_ne (segIx_dc_ne_ac l)]; rfl
  rw [h.ruleEncblk_runLength hfits hfit hrange hbd hcap, ruleHeac_eq_appendBits hl (runLengthState_vr ..)
    ((congrArg _ (runLengthState_rl ..)).trans hba), appendBits, hlen, runLengthState_mem, encodedState]

end

/-- The state `ENCBLK L` leaves, as one update of the state it found. -/
theorem withPred_encodedState {s : State} {l : Layer} {b : Block NUM} {rest : List (Block NUM)} {q : Block Int}
    {d : Int} {ps : List Pair} (hps : rleFrom 0 (acOf (zigzag q)) = ps) (bd ba : Bits) :
    ({ s with
      xin := rest, xb := fdct b, qb := q, zq := zigzag q, diff := d, rl := ps
      vx := true, vq := true, vz0 := true, vza := true, vd := true, vr := true
      mem := (s.mem.append (segIx .dc l) bd).append (segIx .ac l) ba
      cmdCnt := s.cmdCnt + 1 } : State).withPred l (zigzag q)[0] =
    s.over fun c => encodedState l q d bd ba (transformedState exactSystem b rest (countCommand c)) := by
  have hf : exactSystem.fdct b = fdct b := rfl
  simp only [encodedState, runLengthState, dcAppendedState, differencedState, transformedState, hf, hps]
  generalize fdct b = x, zigzag q = z
  cases l <;> rfl

/-- Settles O58: the chain is followed stage by stage, up to the first check that fails or to the last append. -/
theorem encblkCommand : Obligations.EncblkCommand := by
  refine ⟨fun s l hf h => ?_, fun s l b rest hv ha hq hx => ?_⟩
  · exact runCommand_seqFault (rule := ruleEncblk s.params exactSystem l) hf
      (ruleEncblk_eq_seqFault (h.imp_left (State.layerBlocked_of_not_accepts hf)))
  · intro q z d ps
    have h : (countCommand s.toCoreState).Encodes s.params exactSystem l b rest q d :=
      ⟨ha.layerBlocked, hq, hx, rfl, by rw [countCommand_predOf]⟩
    have hps : rleFrom 0 (acOf (zigzag q)) = ps := by rw [rleFrom_zero_eq_rleByRule, acOf_eq_drop]
    refine ⟨fun hfits => runCommand_limited ha.1 (h.ruleEncblk_of_not_fitsAll hfits),
      fun hfits hfit => runCommand_limited ha.1 (h.ruleEncblk_of_not_fits hfits hfit),
      fun hfits hfit hrange => runCommand_error _ s _ ha.1 (h.ruleEncblk_of_dcRange hfits hfit hrange),
      fun hfits hfit hlow hhigh => ?_⟩
    obtain ⟨bd, hbd⟩ := Option.isSome_iff_exists.mp (((encodableValues _ hv).1 d l).mpr ⟨hlow, hhigh⟩)
    have hrange := And.intro hlow hhigh
    refine ⟨bd, hbd, fun hcap => runCommand_limited ha.1 (h.ruleEncblk_of_not_holds hfits hfit hrange hbd hcap),
      fun hcap => ⟨fun before after p hsplit hs hp => ?_, fun hz => ?_⟩⟩
    · have hba : encPairs s.params.hTables l 0 (rleFrom 0 (acOf (zigzag q))) = .error before.length := by
        rw [hps, hsplit, encPairs_error _ l before p after 0 hs hp, Nat.zero_add]
      exact runCommand_error _ s _ ha.1 (h.ruleEncblk_of_acRange hfits hfit hrange hbd hcap hba)
    · obtain ⟨ba, hba⟩ := exists_encPairs_rleFrom hv l hz
      have hrule := h.ruleEncblk_acAppended hfits hfit hrange hbd hcap hba
      refine ⟨ba, hps ▸ hba, ?_⟩
      rw [countCommand_mem] at hrule
      split
      · next hcap' =>
        rw [hcap', checkLimit_true] at hrule
        rw [withPred_encodedState hps]
        exact runCommand_ok _ s _ ha.1 hrule
      · next hcap' =>
        rw [Bool.eq_false_iff.mpr hcap', checkLimit_false, encodedState_cmdCnt] at hrule
        exact runCommand_limited (rule := ruleEncblk s.params exactSystem l) ha.1 hrule

end Sys2Proof.Machine

namespace Sys2Proof.Machine

/-! ### The steps of `DECBLK` (48_dispatcher R271) -/

/-- A cursor write leaves what another cursor has still to read. -/
theorem Memory.rest_setCur_of_ne {j k : Fin 4} (h : j ≠ k) (m : Memory) (x : Nat) :
    (m.setCur j x).rest k = m.rest k := by
  rw [Memory.rest, Memory.setCur_cur, if_neg h, Memory.setCur_seg, Memory.rest]

/-- What `HDDC L` leaves, when the difference is `d` and the cursor after it `x`. -/
def diffReadState {ν : Type} (l : Layer) (d : Int) (x : Nat) (s : CoreState ν) : CoreState ν :=
  writeDiff d { s with mem := s.mem.setCur (segIx .dc l) x }

/-- What `HDDC L ; DCD L` leave, when the DC value is `v`. -/
def summedState {ν : Type} (l : Layer) (d : Int) (x : Nat) (v : Int) (s : CoreState ν) : CoreState ν :=
  setPred l v (writeZq0 v (diffReadState l d x s))

/-- What `HDAC L` leaves, when the block's pairs are `ps` and the cursor after them is `x`. -/
def blockReadState {ν : Type} (l : Layer) (ps : List Pair) (x : Nat) (s : CoreState ν) : CoreState ν :=
  writeRl (ps ++ [eob]) { s with mem := s.mem.setCur (segIx .ac l) x }

/-- What `RLD ; IZZ ; DQT L ; IDCT ; STX` leave, when the coefficients are `z`, the block `q` and the
samples `x`. -/
def emittedState {ν : Type} (z : Vector Int 64) (q : Block Int) (x : Block ν) (s : CoreState ν) : CoreState ν :=
  { writeXb x (writeQb q { s with zq := z, vza := true }) with xout := s.xout ++ [x] }

section

variable {ν : Type} (l : Layer) (d : Int) (x : Nat) (v : Int) (s : CoreState ν)

@[simp] theorem diffReadState_diff : (diffReadState l d x s).diff = d := rfl

@[simp] theorem diffReadState_predOf : (diffReadState l d x s).predOf l = s.predOf l := by
  cases l <;> rfl

@[simp] theorem summedState_layerBlocked : (summedState l d x v s).layerBlocked l = s.layerBlocked l := by
  simp [CoreState.layerBlocked, summedState, diffReadState]

@[simp] theorem summedState_quality : (summedState l d x v s).quality = s.quality := by
  simp [summedState, diffReadState]

@[simp] theorem summedState_cmdCnt : (summedState l d x v s).cmdCnt = s.cmdCnt := by
  simp [summedState, diffReadState]

@[simp] theorem summedState_vz0 : (summedState l d x v s).vz0 = true := by
  simp [summedState, diffReadState]

@[simp] theorem summedState_zq_zero : (summedState l d x v s).zq[0] = v := by
  simp [summedState, diffReadState]

@[simp] theorem summedState_mem : (summedState l d x v s).mem = s.mem.setCur (segIx .dc l) x := by
  simp [summedState, diffReadState]

@[simp] theorem blockReadState_cmdCnt (ps : List Pair) : (blockReadState l ps x s).cmdCnt = s.cmdCnt := rfl

@[simp] theorem blockReadState_quality (ps : List Pair) : (blockReadState l ps x s).quality = s.quality := rfl

@[simp] theorem blockReadState_zq (ps : List Pair) : (blockReadState l ps x s).zq = s.zq := rfl

@[simp] theorem blockReadState_layerBlocked (ps : List Pair) :
    (blockReadState l ps x s).layerBlocked l = s.layerBlocked l := rfl

end

section

variable {ν : Type} {p : Params} {n : NumSystem ν} {l : Layer} {s : CoreState ν}

/-- The values of the 64 coefficients after `RLD` (44_rle_coder R183). -/
theorem writeZqAc_zq_eq_ofFn (ac : List Int) : (writeZqAc ac s).zq =
    Vector.ofFn fun k : Fin 64 => if k.val = 0 then s.zq[0] else ac.getD (k.val - 1) 0 := by
  refine Vector.ext fun k hk => ?_
  rw [writeZqAc_zq, Vector.getElem_mapIdx, Vector.getElem_ofFn]
  split
  · next h0 => subst h0; rfl
  · rfl

/-- EOB's value is 0, which fits. -/
theorem fitsAll_append_eob (p : Params) (ps : List Pair) :
    p.fitsAll ((ps ++ [eob]).map fun q => q.value) = p.fitsAll (ps.map fun q => q.value) := by
  rw [Bool.eq_iff_iff, Params.fitsAll_iff, Params.fitsAll_iff, List.map_append, List.forall_mem_append]
  simp [eob, Params.fits_zero]

theorem commitAc_block (ps : List Pair) (x : Nat) : commitAc p l (.ok (ps ++ [eob], x)) s =
    checkLimit .intWidth (p.fitsAll (ps.map fun q => q.value)) (blockReadState l ps x s) := by
  rw [commitAc, fitsAll_append_eob]; rfl

theorem ruleDcd_eq_checkLimit (hl : s.layerBlocked l = false) (hvd : s.vd = true) :
    ruleDcd p l s = checkLimit .intWidth (p.fits (s.predOf l + s.diff))
      (setPred l (s.predOf l + s.diff) (writeZq0 (s.predOf l + s.diff) s)) := by
  simp [ruleDcd, hl, hvd]

theorem ruleDecblk_eq_seqFault (h : s.layerBlocked l = true ∨ s.quality = 0) :
    ruleDecblk p n l s = .error (seqFault (0x3100 + l.code)) := by
  rcases h with h | h <;> simp [ruleDecblk, h]

theorem ruleDecblk_eq_chain (hl : s.layerBlocked l = false) (hq : s.quality ≠ 0) :
    ruleDecblk p n l s = decodeChain p n l s := by
  simp [ruleDecblk, hl, hq]

theorem ruleDecblk_of_symbolFault (hl : s.layerBlocked l = false) (hq : s.quality ≠ 0) {e : SymbolFault}
    (hread : readSymbol p.hTables .dc l (s.mem.rest (segIx .dc l)) = .error e) :
    ruleDecblk p n l s = .error (symbolRaise e s.mem.cur[segIx .dc l] (segIx .dc l)) := by
  rw [ruleDecblk_eq_chain hl hq, decodeChain, ruleHddc_eq_error hl hread]; rfl

/-- The five steps after `HDAC` complete on a block of at most 63 coefficients. -/
theorem emitBlock_eq_ok (hl : s.layerBlocked l = false) (hq : s.quality ≠ 0) (hvr : s.vr = true) (hvz0 : s.vz0 = true)
    {ac : List Int} (hexp : expand s.rl = some ac) (hlen : ac.length ≤ 63) {z : Vector Int 64}
    (hz : (writeZqAc ac s).zq = z) {q : Block Int} (hzq : inverseZigzag z = q) :
    andThen (andThen (andThen (andThen (ruleRld s) ruleIzz) (ruleDqt p n l)) (ruleIdct n)) ruleStx =
      .ok (emittedState z q (n.idct (dequantize p n l s.quality q)) s) := by
  have hac : writeZqAc ac s = { s with zq := z, vza := true } := by subst hz; rfl
  have hizz := ruleIzz_eq_ok (s := { s with zq := z, vza := true }) hvz0 rfl
  have hdqt := ruleDqt_eq_ok (p := p) (n := n) (s := writeQb q { s with zq := z, vza := true }) hl hq rfl
  rw [hzq] at hizz
  rw [writeQb_quality, writeQb_qb] at hdqt
  rw [ruleRld_eq_ok hvr hexp hlen, andThen_ok, hac, hizz, andThen_ok, hdqt, andThen_ok]
  generalize dequantize p n l s.quality q = y
  have hidct := ruleIdct_of_vx n (s := writeXb y (writeQb q { s with zq := z, vza := true })) rfl
  rw [hidct, andThen_ok]
  simp only [ruleStx, emittedState]
  rfl

end

/-- `DECBLK L` gets past its own checks in `s`, and at the cursor of `SEG[2L]` stands the DC symbol of the difference `d`,
whose bits are `bd` (45_huffman R205). -/
structure CoreState.Decodes {ν : Type} (p : Params) (l : Layer) (s : CoreState ν) (d : Int) (bd : Bits) : Prop where
  tables : p.hTables.valid = true
  layer : s.layerBlocked l = false
  quality : s.quality ≠ 0
  encoded : encDc p.hTables d l = some bd
  atCursor : ∃ tail, s.mem.rest (segIx .dc l) = bd ++ tail

section

variable {ν : Type} {p : Params} {n : NumSystem ν} {l : Layer} {s : CoreState ν} {d : Int} {bd : Bits}
  (h : s.Decodes p l d bd)
include h

theorem CoreState.Decodes.ruleHddc_eq_checkLimit : ruleHddc p l s = checkLimit .intWidth (p.fits d)
    (diffReadState l d (s.mem.cur[segIx .dc l] + bd.length) s) := by
  obtain ⟨tail, hrest⟩ := h.atCursor
  rw [ruleHddc_eq_takeDc h.layer (by rw [hrest]; exact readSymbol_encDc h.tables h.encoded tail)]
  simp only [takeDc, unliteral_literal, diffReadState]

theorem CoreState.Decodes.ruleDecblk_of_not_fits (hfit : p.fits d = false) :
    ruleDecblk p n l s = .error (limitFault .intWidth s.cmdCnt) := by
  rw [ruleDecblk_eq_chain h.layer h.quality, decodeChain, h.ruleHddc_eq_checkLimit, hfit]; rfl

variable (hfit : p.fits d = true) {v : Int} (hv : s.predOf l + d = v)
include hfit hv

theorem CoreState.Decodes.ruleDecblk_summed :
    ruleDecblk p n l s = andThen (andThen (andThen (andThen (andThen (andThen (checkLimit .intWidth (p.fits v)
      (summedState l d (s.mem.cur[segIx .dc l] + bd.length) v s)) (ruleHdac p l)) ruleRld) ruleIzz) (ruleDqt p n l))
      (ruleIdct n)) ruleStx := by
  have hdcd := ruleDcd_eq_checkLimit (p := p) (s := diffReadState l d (s.mem.cur[segIx .dc l] + bd.length) s)
    h.layer rfl
  rw [diffReadState_predOf, diffReadState_diff, hv] at hdcd
  rw [ruleDecblk_eq_chain h.layer h.quality, decodeChain, h.ruleHddc_eq_checkLimit, hfit, checkLimit_true, andThen_ok,
    hdcd, summedState]

theorem CoreState.Decodes.ruleDecblk_of_sum_not_fits (hfit' : p.fits v = false) :
    ruleDecblk p n l s = .error (limitFault .intWidth s.cmdCnt) := by
  rw [h.ruleDecblk_summed hfit hv, hfit', checkLimit_false, summedState_cmdCnt]; rfl

variable (hfit' : p.fits v = true) {r : Except Raise (List Pair × Nat)}
  (hloop : hdacLoop p.hTables l 64 (s.mem.rest (segIx .ac l)) s.mem.cur[segIx .ac l] [] 0 = r)
include hfit' hloop

theorem CoreState.Decodes.ruleDecblk_committed :
    ruleDecblk p n l s = andThen (andThen (andThen (andThen (andThen (commitAc p l r
      (summedState l d (s.mem.cur[segIx .dc l] + bd.length) v s)) ruleRld) ruleIzz) (ruleDqt p n l))
      (ruleIdct n)) ruleStx := by
  have hne := segIx_dc_ne_ac l
  have hhdac := ruleHdac_eq_commitAc (p := p) (s := summedState l d (s.mem.cur[segIx .dc l] + bd.length) v s) (r := r)
    ((summedState_layerBlocked ..).trans h.layer)
    (by rw [summedState_mem, Memory.rest_setCur_of_ne hne, Memory.setCur_cur, if_neg hne]; exact hloop)
  rw [h.ruleDecblk_summed hfit hv, hfit', checkLimit_true, andThen_ok, hhdac]

end

section

variable {ν : Type} {p : Params} {n : NumSystem ν} {l : Layer} {s : CoreState ν} {d : Int} {bd : Bits}
  (h : s.Decodes p l d bd) (hfit : p.fits d = true) {v : Int} (hv : s.predOf l + d = v) (hfit' : p.fits v = true)
include h hfit hv hfit'

theorem CoreState.Decodes.ruleDecblk_of_loop_error {r : Raise}
    (hloop : hdacLoop p.hTables l 64 (s.mem.rest (segIx .ac l)) s.mem.cur[segIx .ac l] [] 0 = .error r) :
    ruleDecblk p n l s = .error r := by
  rw [h.ruleDecblk_committed hfit hv hfit' hloop]; rfl

variable {ps : List Pair} {x : Nat}
  (hloop : hdacLoop p.hTables l 64 (s.mem.rest (segIx .ac l)) s.mem.cur[segIx .ac l] [] 0 = .ok (ps ++ [eob], x))
include hloop

theorem CoreState.Decodes.ruleDecblk_of_pairs_not_fit (hfits : p.fitsAll (ps.map fun q => q.value) = false) :
    ruleDecblk p n l s = .error (limitFault .intWidth s.cmdCnt) := by
  rw [h.ruleDecblk_committed hfit hv hfit' hloop, commitAc_block, hfits, checkLimit_false,
    blockReadState_cmdCnt, summedState_cmdCnt]; rfl

theorem CoreState.Decodes.ruleDecblk_emitted (hfits : p.fitsAll (ps.map fun q => q.value) = true) (hps : eob ∉ ps)
    (hcnt : coeffCount ps ≤ 63) {z : Vector Int 64}
    (hz : z = Vector.ofFn fun k => if k.val = 0 then v else (expansion ps).getD (k.val - 1) 0)
    {q : Block Int} (hzq : inverseZigzag z = q) :
    ruleDecblk p n l s = .ok (emittedState z q (n.idct (dequantize p n l s.quality q))
      (blockReadState l ps x (summedState l d (s.mem.cur[segIx .dc l] + bd.length) v s))) := by
  have hexp : expand (ps ++ [eob]) = some (expansion ps) := expand_append_eob hps []
  have hlen : (expansion ps).length ≤ 63 := by rw [length_expansion]; exact hcnt
  have hemit := emitBlock_eq_ok (p := p) (n := n) (z := z)
    (s := blockReadState l ps x (summedState l d (s.mem.cur[segIx .dc l] + bd.length) v s))
    ((summedState_layerBlocked ..).trans h.layer) ((summedState_quality ..).trans_ne h.quality) rfl
    (summedState_vz0 ..) hexp hlen (by rw [writeZqAc_zq_eq_ofFn, blockReadState_zq, summedState_zq_zero, hz]) hzq
  rw [blockReadState_quality, summedState_quality] at hemit
  rw [h.ruleDecblk_committed hfit hv hfit' hloop, commitAc_block, hfits, checkLimit_true, andThen_ok, hemit]

end

/-- The state `DECBLK L` leaves, as one update of the state it found. -/
theorem withPred_emittedState (s : State) (l : Layer) (d v : Int) (ps : List Pair) (z : Vector Int 64) (q : Block Int)
    (x : Block NUM) (xd xa : Nat) :
    ({ s with
      diff := d, rl := ps ++ [eob], zq := z, qb := q, xb := x, xout := s.xout ++ [x]
      vx := true, vq := true, vz0 := true, vza := true, vd := true, vr := true
      mem := (s.mem.setCur (segIx .dc l) xd).setCur (segIx .ac l) xa
      cmdCnt := s.cmdCnt + 1 } : State).withPred l v =
    s.over fun c => emittedState z q x (blockReadState l ps xa (summedState l d xd v (countCommand c))) := by
  cases l <;> rfl

/-- A symbol fault, taken, on the counted state (60_exceptions R304, R308, R309). -/
theorem runCommand_symbolRaise {rule : CoreState NUM → Effect NUM} {s : State} {e : SymbolFault} {x : Nat} {k : Fin 4}
    (hf : s.faulted = false) (hr : rule (countCommand s.toCoreState) = .error (symbolRaise e x k)) :
    runCommand rule s = .next (s.faultedWith (symbolRaise e x k).code x k) := by
  cases e <;> exact runCommand_error rule s _ hf hr

/-- Settles O59: the chain is followed stage by stage; after the DC steps, what the loop of `HDAC` answers decides. -/
theorem decblkCommand : Obligations.DecblkCommand := by
  refine ⟨fun s l hf h => ?_, fun s l e ha hq hread => ?_, fun s l d bd td hv ha hq hbd hrest => ?_⟩
  · exact runCommand_seqFault (rule := ruleDecblk s.params exactSystem l) hf
      (ruleDecblk_eq_seqFault (h.imp_left (State.layerBlocked_of_not_accepts hf)))
  · have hexec := runCommand_symbolRaise (rule := ruleDecblk s.params exactSystem l) ha.1
      (ruleDecblk_of_symbolFault (s := countCommand s.toCoreState) ha.layerBlocked hq hread)
    cases e <;> exact hexec
  · intro v
    have h : (countCommand s.toCoreState).Decodes s.params l d bd := ⟨hv, ha.layerBlocked, hq, hbd, td, hrest⟩
    have hsum : (countCommand s.toCoreState).predOf l + d = v := by rw [countCommand_predOf]
    refine ⟨fun hfit => runCommand_limited (rule := ruleDecblk s.params exactSystem l) ha.1 ?_, fun hfit hfit' =>
      ⟨fun ps b tail e hps hcnt hb hac hread => ?_, fun ps q b tail hps hq' hcnt hpast hb hac => ?_,
        fun ps ba ta hps hcnt hba hac => ?_⟩⟩
    · cases hd : s.params.fits d with
      | true => exact h.ruleDecblk_of_sum_not_fits hd hsum (hfit.resolve_left (by simp [hd]))
      | false => exact h.ruleDecblk_of_not_fits hd
    · have hloop := hdacLoop_symbolRaise hv hps hcnt hb hread s.mem.cur[segIx .ac l]
      rw [← hac] at hloop
      have hexec := runCommand_symbolRaise (rule := ruleDecblk s.params exactSystem l) ha.1
        (h.ruleDecblk_of_loop_error hfit hsum hfit' hloop)
      cases e <;> exact hexec
    · have hloop := hdacLoop_rleFormat hv hps hq' hcnt hpast hb tail s.mem.cur[segIx .ac l]
      rw [← hac] at hloop
      exact runCommand_error _ s _ ha.1 (h.ruleDecblk_of_loop_error hfit hsum hfit' hloop)
    · intro z q x
      have hloop := hdacLoop_block hv hps hcnt hba ta s.mem.cur[segIx .ac l]
      rw [← hac] at hloop
      split
      · next hfits =>
        rw [withPred_emittedState]
        exact runCommand_ok (ruleDecblk s.params exactSystem l) s _ ha.1
          (h.ruleDecblk_emitted hfit hsum hfit' hloop hfits hps hcnt rfl rfl)
      · next hfits =>
        exact runCommand_limited (rule := ruleDecblk s.params exactSystem l) ha.1
          (h.ruleDecblk_of_pairs_not_fit hfit hsum hfit' hloop (Bool.eq_false_iff.mpr hfits))

end Sys2Proof.Machine

namespace Sys2Proof.Machine

/-! ### A composite is its eight commands (48_dispatcher R272) -/

section

variable {ν : Type} {p : Params} {n : NumSystem ν} {l : Layer} {s t : CoreState ν}

theorem Effect.Recounts.andThen {k : Nat} {e e' : Effect ν} {rule : CoreState ν → Effect ν} (he : Effect.Recounts k e e')
    (hr : CountFree rule) : Effect.Recounts k (andThen e rule) (andThen e' rule) := by
  intro t ht
  obtain ⟨u, hu, hut⟩ := (andThen_eq_ok e rule t).mp ht
  rw [he u hu, andThen_ok]
  exact hr u k t hut

theorem encodeChain_countFree (p : Params) (n : NumSystem ν) (l : Layer) : CountFree (encodeChain p n l) := fun s k =>
  (((((((ruleLdx_countFree s k).andThen (ruleFdct_countFree n)).andThen (ruleQnt_countFree p n l)).andThen
    ruleZz_countFree).andThen (ruleDce_countFree p l)).andThen (ruleHedc_countFree p l)).andThen
    ruleRle_countFree).andThen (ruleHeac_countFree p l)

theorem decodeChain_countFree (p : Params) (n : NumSystem ν) (l : Layer) : CountFree (decodeChain p n l) := fun s k =>
  (((((((ruleHddc_countFree p l s k).andThen (ruleDcd_countFree p l)).andThen (ruleHdac_countFree p l)).andThen
    ruleRld_countFree).andThen ruleIzz_countFree).andThen (ruleDqt_countFree p n l)).andThen
    (ruleIdct_countFree n)).andThen ruleStx_countFree

/-- What `ENCBLK` checks first, its steps check too. -/
theorem encodeChain_ne_ok (h : s.layerBlocked l = true ∨ s.quality = 0 ∨ s.xin = []) : encodeChain p n l s ≠ .ok t := by
  intro ht
  cases hx : s.xin with
  | nil => rw [encodeChain, ruleLdx_nil hx] at ht; cases ht
  | cons b rest =>
    have hblocked : s.layerBlocked l = true ∨ s.quality = 0 := by simpa [hx] using h
    have hqnt := ruleQnt_eq_seqFault (p := p) (n := n) (l := l) (s := transformedState n b rest s)
      (hblocked.imp_right .inl)
    rw [encodeChain_transformed hx, hqnt] at ht
    cases ht

theorem ruleEncblk_eq_ok_iff : ruleEncblk p n l s = .ok t ↔ encodeChain p n l s = .ok t := by
  by_cases h : s.layerBlocked l = true ∨ s.quality = 0 ∨ s.xin = []
  · rw [ruleEncblk_eq_seqFault h]
    exact ⟨nofun, fun ht => absurd ht (encodeChain_ne_ok h)⟩
  · push Not at h
    rw [ruleEncblk_eq_chain (Bool.eq_false_iff.mpr h.1) h.2.1 h.2.2]

/-- The steps of `DECBLK` before `DQT` write no `QUALITY`. -/
theorem quality_of_decodePrefix {u : CoreState ν} (h : andThen (andThen (andThen (andThen (ruleHddc p l s) (ruleDcd p l))
    (ruleHdac p l)) ruleRld) ruleIzz = .ok u) : u.quality = s.quality := by
  have hlawful : Effect.Lawful p [.diff, .cur (segIx .dc l), .zq0, .pred l, .rl, .cur (segIx .ac l), .zqAc, .qb] s
      (.ok u) := by
    rw [← h]
    exact (ruleHddc_lawful s p l).mono (by simp)
      |>.andThen (fun u => (ruleDcd_lawful u p l).mono (by simp))
      |>.andThen (fun u => (ruleHdac_lawful u p l).mono (by simp))
      |>.andThen (fun u => (ruleRld_lawful u p).mono (by simp))
      |>.andThen (fun u => (ruleIzz_lawful u p).mono (by simp))
  exact hlawful.2.same .quality (by simp)

/-- What `DECBLK` checks first, its steps check too. -/
theorem decodeChain_ne_ok (h : s.layerBlocked l = true ∨ s.quality = 0) : decodeChain p n l s ≠ .ok t := by
  intro ht
  rcases h with hl | hq
  · have hhddc : ruleHddc p l s = .error (seqFault (0x2200 + l.code)) := if_pos hl
    rw [decodeChain, hhddc] at ht
    cases ht
  · obtain ⟨w, hw, -⟩ := (andThen_eq_ok _ _ _).mp ht
    obtain ⟨v, hv, -⟩ := (andThen_eq_ok _ _ _).mp hw
    obtain ⟨u, hu, hdqt⟩ := (andThen_eq_ok _ _ _).mp hv
    rw [ruleDqt_eq_seqFault (.inr (.inl ((quality_of_decodePrefix hu).trans hq)))] at hdqt
    cases hdqt

theorem ruleDecblk_eq_ok_iff : ruleDecblk p n l s = .ok t ↔ decodeChain p n l s = .ok t := by
  by_cases h : s.layerBlocked l = true ∨ s.quality = 0
  · rw [ruleDecblk_eq_seqFault h]
    exact ⟨nofun, fun ht => absurd ht (decodeChain_ne_ok h)⟩
  · push Not at h
    rw [ruleDecblk_eq_chain (Bool.eq_false_iff.mpr h.1) h.2]

/-- Two rules that complete in the same way are count free together. -/
theorem CountFree.congr {rule rule' : CoreState ν → Effect ν} (h : CountFree rule)
    (hiff : ∀ s t, rule' s = .ok t ↔ rule s = .ok t) : CountFree rule' := fun s k t ht =>
  (hiff _ _).mpr (h s k t ((hiff s t).mp ht))

end

theorem encodeCommands_runRules (p : Params) (l : Layer) : List.Forall₂ (RunsRule p)
    [.ldx, .fdct, .qnt l, .zz, .dce l, .hedc l, .rle, .heac l]
    [ruleLdx, ruleFdct exactSystem, ruleQnt p exactSystem l, ruleZz, ruleDce p l, ruleHedc p l, ruleRle,
      ruleHeac p l] :=
  .cons (ruleLdx_countFree.runsRule rfl rfl) <| .cons ((ruleFdct_countFree _).runsRule rfl rfl) <|
  .cons ((ruleQnt_countFree p _ l).runsRule rfl rfl) <| .cons (ruleZz_countFree.runsRule rfl rfl) <|
  .cons ((ruleDce_countFree p l).runsRule rfl rfl) <| .cons ((ruleHedc_countFree p l).runsRule rfl rfl) <|
  .cons (ruleRle_countFree.runsRule rfl rfl) <| .cons ((ruleHeac_countFree p l).runsRule rfl rfl) .nil

theorem decodeCommands_runRules (p : Params) (l : Layer) : List.Forall₂ (RunsRule p)
    [.hddc l, .dcd l, .hdac l, .rld, .izz, .dqt l, .idct, .stx]
    [ruleHddc p l, ruleDcd p l, ruleHdac p l, ruleRld, ruleIzz, ruleDqt p exactSystem l, ruleIdct exactSystem,
      ruleStx] :=
  .cons ((ruleHddc_countFree p l).runsRule rfl rfl) <| .cons ((ruleDcd_countFree p l).runsRule rfl rfl) <|
  .cons ((ruleHdac_countFree p l).runsRule rfl rfl) <| .cons (ruleRld_countFree.runsRule rfl rfl) <|
  .cons (ruleIzz_countFree.runsRule rfl rfl) <| .cons ((ruleDqt_countFree p _ l).runsRule rfl rfl) <|
  .cons ((ruleIdct_countFree _).runsRule rfl rfl) <| .cons (ruleStx_countFree.runsRule rfl rfl) .nil

/-- Settles O60: each composite completes exactly when its eight rules do in a row, and no rule takes notice of `CMDCNT`. -/
theorem compositeIsSequence : Obligations.CompositeIsSequence := by
  intro s l hf
  have henc : RunsRule s.params (.encblk l) (ruleEncblk s.params exactSystem l) :=
    ((encodeChain_countFree s.params exactSystem l).congr fun _ _ => ruleEncblk_eq_ok_iff).runsRule rfl rfl
  have hdec : RunsRule s.params (.decblk l) (ruleDecblk s.params exactSystem l) :=
    ((decodeChain_countFree s.params exactSystem l).congr fun _ _ => ruleDecblk_eq_ok_iff).runsRule rfl rfl
  obtain ⟨hseq, hcomp⟩ := henc.composite (encodeCommands_runRules s.params l) hf fun _ => ruleEncblk_eq_ok_iff
  obtain ⟨hseq', hcomp'⟩ := hdec.composite (decodeCommands_runRules s.params l) hf fun _ => ruleDecblk_eq_ok_iff
  exact ⟨hseq, hcomp, hseq', hcomp'⟩

end Sys2Proof.Machine

namespace Sys2Proof.Machine

/-! ### Faults, and commands while `FAULTED` (60_exceptions R304, R305) -/

/-- Settles O16: every command but `CLR` is a command step, which only counts while `FAULTED`. -/
theorem faultedIgnoresCommands : Obligations.FaultedIgnoresCommands := by
  intro i s hf hi
  obtain ⟨rule, hrule, -⟩ := rule_of_ne_clr s.params exactSystem i hi
  rw [exec_eq_coreExec, hrule, commandStep_faulted rule _ hf]
  rfl

/-- A command step that sets `FAULTED` has taken a proper fault: a rule that completes has left `FAULTED` alone. -/
theorem commandStep_eq_takeFault {ν : Type} {p : Params} {ps : List Piece} {rule : CoreState ν → Effect ν}
    {s : CoreState ν} (hlaw : Effect.Lawful p ps (countCommand s) (rule (countCommand s)))
    (hkeeps : Effect.KeepsBookkeeping (countCommand s) (rule (countCommand s))) (hf : s.faulted = false)
    (ht : (commandStep rule s).faulted = true) :
    ∃ r : Raise, r.Proper ∧ commandStep rule s = takeFault r (countCommand s) := by
  obtain ⟨hs, -⟩ | ⟨-, hok⟩ | ⟨-, r, hr, hstep⟩ := commandStep_cases rule s
  · simp [hf] at hs
  · have hsame : (commandStep rule s).faulted = s.faulted := congrArg (fun b => b.2.1) (hkeeps _ hok)
    simp [hsame, hf] at ht
  · exact ⟨r, hlaw.error hr, hstep⟩

/-- Settles O15: `CLR` leaves `FAULTED = 0`; the step of every other command has taken the fault its rule raised. -/
theorem faultDiscardsEffects : Obligations.FaultDiscardsEffects := by
  intro i s t hf hexec ht
  rw [exec_eq_coreExec] at hexec
  cases hexec
  by_cases hi : i = .clr
  · subst hi
    cases ht
  · obtain ⟨rule, hrule, hlaw⟩ := lawful_of_ne_clr s.params exactSystem hi
    rw [hrule] at ht ⊢
    obtain ⟨hlawful, hkeeps⟩ := hlaw (countCommand s.toCoreState)
    obtain ⟨r, ⟨hcode, hseg⟩, hstep⟩ := commandStep_eq_takeFault hlawful hkeeps hf ht
    exact ⟨r.code, r.info, r.seg, hcode, hseg, by rw [hstep]; rfl⟩

/-! ### Why no symbol is read (45_huffman R206, R207; 60_exceptions R308, R309) -/

/-- The bit strings that begin with `x`, without that bit. -/
def bitsAfter (x : Bool) (bs : List Bits) : List Bits :=
  (bs.filter fun b => b.head? == some x).map List.tail

/-- The code tree of `bs`, of depth at most `d`, has no open branch: at every node a string of `bs` ends, or both of its
branches are closed. -/
def covers : Nat → List Bits → Bool
  | 0, bs => bs.contains []
  | d + 1, bs => bs.contains [] || (covers d (bitsAfter true bs) && covers d (bitsAfter false bs))

theorem mem_bitsAfter {x : Bool} {b : Bits} {bs : List Bits} : b ∈ bitsAfter x bs ↔ x :: b ∈ bs := by
  simp only [bitsAfter, List.mem_map, List.mem_filter, beq_iff_eq, List.head?_eq_some_iff]
  constructor
  · rintro ⟨_, ⟨hmem, b', rfl⟩, rfl⟩
    exact hmem
  · exact fun h => ⟨x :: b, ⟨h, b, rfl⟩, rfl⟩

/-- Walking down a tree with no open branch, any bits come to the end of a string, or end on the way to one. -/
theorem exists_comparable_of_covers {d : Nat} {bs : List Bits} (h : covers d bs = true) (rest : Bits) :
    ∃ b ∈ bs, b <+: rest ∨ rest <+: b := by
  induction d generalizing bs rest with
  | zero => exact ⟨[], by simpa [covers] using h, .inl List.nil_prefix⟩
  | succ d ih =>
    rw [covers, Bool.or_eq_true, Bool.and_eq_true] at h
    obtain hnil | ⟨htrue, hfalse⟩ := h
    · exact ⟨[], by simpa using hnil, .inl List.nil_prefix⟩
    · have hbranch (x : Bool) : covers d (bitsAfter x bs) = true := by cases x <;> assumption
      cases rest with
      | nil =>
        obtain ⟨b, hb, -⟩ := ih htrue []
        exact ⟨true :: b, mem_bitsAfter.mp hb, .inr List.nil_prefix⟩
      | cons x rest =>
        obtain ⟨b, hb, hcomp⟩ := ih (hbranch x) rest
        exact ⟨x :: b, mem_bitsAfter.mp hb, by simpa [List.cons_prefix_cons] using hcomp⟩

/-- A codeword and a literal of its size are the encoding of a symbol of the table. -/
theorem exists_encode_eq_code {h : HTables} (hv : h.valid = true) {ty : ValType} {l : Layer} {c : Code}
    (hc : c ∈ (h.get ty l).codes) {lit : Bits} (hlit : lit.length = c.size) :
    ∃ (i : Instr) (y : Symbol), i.symbol? = some y ∧ y.type = ty ∧ y.layer = l ∧ encode h i = c.bits ++ lit := by
  have hread := readSymbol_code hv hc hlit []
  rw [List.append_nil] at hread
  obtain ⟨i, hi, hty, hl, hlen, hprefix⟩ := symbolReadStandsThere h ty l _ _ _ hv hread
  exact ⟨i, _, hi, hty, hl, hprefix.eq_of_length (by rw [← hlen, List.length_append, c.length_bits, hlit])⟩

/-- There is a literal of each length that agrees with given bits, as far as both go. -/
theorem exists_comparable_of_length (n : Nat) (r : Bits) : ∃ lit : Bits, lit.length = n ∧ (lit <+: r ∨ r <+: lit) :=
  ⟨(r ++ List.replicate n false).take n, by simp,
    List.prefix_or_prefix_of_prefix (List.take_prefix ..) (List.prefix_append ..)⟩

/-- Bits that agree with a codeword, as far as both go, agree with an encoding of the table. -/
theorem exists_encode_comparable {h : HTables} (hv : h.valid = true) {ty : ValType} {l : Layer} {c : Code}
    (hc : c ∈ (h.get ty l).codes) {rest : Bits} (hcomp : c.bits <+: rest ∨ rest <+: c.bits) :
    ∃ (i : Instr) (y : Symbol), i.symbol? = some y ∧ y.type = ty ∧ y.layer = l ∧
      (encode h i <+: rest ∨ rest <+: encode h i) := by
  obtain ⟨r, rfl⟩ | hrest := hcomp
  · obtain ⟨lit, hlen, hlit⟩ := exists_comparable_of_length c.size r
    obtain ⟨i, y, hy, hty, hl, henc⟩ := exists_encode_eq_code hv hc hlen
    exact ⟨i, y, hy, hty, hl, by simpa [henc, List.prefix_append_right_inj] using hlit⟩
  · obtain ⟨lit, hlen, -⟩ := exists_comparable_of_length c.size []
    obtain ⟨i, y, hy, hty, hl, henc⟩ := exists_encode_eq_code hv hc hlen
    exact ⟨i, y, hy, hty, hl, .inr (henc ▸ hrest.trans (List.prefix_append ..))⟩

/-- Where no codeword matches, more bits behind change nothing (45_huffman R206). -/
theorem matchCode_append_of_noMatch {t : HTable} {rest : Bits} {ns : List Nat}
    (h : matchCode t rest ns = .error .noMatch) (tail : Bits) : matchCode t (rest ++ tail) ns = .error .noMatch := by
  induction ns with
  | nil => rfl
  | cons n ns ih =>
    simp only [matchCode] at h ⊢
    split at h
    · cases h
    · next hlen =>
      have hn : n ≤ rest.length := by simpa using hlen
      rw [List.take_append_of_le_length hn, if_neg hlen]
      split at h
      · cases h
      · exact ih h

theorem readSymbol_eq_noMatch_iff {h : HTables} {ty : ValType} {l : Layer} {rest : Bits} :
    readSymbol h ty l rest = .error .noMatch ↔ matchCode (h.get ty l) rest (h.get ty l).lens = .error .noMatch := by
  unfold readSymbol
  split
  · next e he => simp [he]
  · next c hc => simp only [hc]; split_ifs <;> simp

theorem readSymbol_append_of_noMatch {h : HTables} {ty : ValType} {l : Layer} {rest : Bits}
    (hr : readSymbol h ty l rest = .error .noMatch) (tail : Bits) :
    readSymbol h ty l (rest ++ tail) = .error .noMatch :=
  readSymbol_eq_noMatch_iff.mpr (matchCode_append_of_noMatch (readSymbol_eq_noMatch_iff.mp hr) tail)

/-- An encoding that stands at the head is read (45_huffman R206, R207). -/
theorem readSymbol_of_encode_prefix {h : HTables} (hv : h.valid = true) {i : Instr} {y : Symbol}
    (hy : i.symbol? = some y) {rest : Bits} (hp : encode h i <+: rest) :
    readSymbol h y.type y.layer rest = .ok (y, (encode h i).length) := by
  obtain ⟨tail, rfl⟩ := hp
  exact (symbolDecodeEncode h i y tail hv hy).1

/-- The proper beginning of an encoding underruns: no symbol stands there, since it would be the encoding's own, and a codeword
that does not match would not match with the missing bits either (60_exceptions R309). -/
theorem readSymbol_eq_underrun {h : HTables} (hv : h.valid = true) {i : Instr} {y : Symbol} (hy : i.symbol? = some y)
    {rest : Bits} (hp : rest <+: encode h i) (hne : rest ≠ encode h i) :
    readSymbol h y.type y.layer rest = .error .underrun := by
  have hfull := readSymbol_of_encode_prefix hv hy List.prefix_rfl
  cases hr : readSymbol h y.type y.layer rest with
  | ok out =>
    exfalso
    obtain ⟨j, hj, hty, hl, -, hjp⟩ := symbolReadStandsThere h _ _ rest out.1 out.2 hv hr
    have hown := readSymbol_of_encode_prefix hv hj (hjp.trans hp)
    rw [hty, hl, hfull] at hown
    have hlen : (encode h i).length = (encode h j).length := (Prod.mk.inj (Except.ok.inj hown)).2
    exact hne (hp.eq_of_length_le (hlen ▸ hjp.length_le))
  | error e =>
    cases e with
    | underrun => rfl
    | noMatch =>
      obtain ⟨tail, htail⟩ := hp
      rw [← htail, readSymbol_append_of_noMatch hr tail] at hfull
      cases hfull

/-! The default tables (log 4). -/

theorem hTables_default_valid : HTables.default.valid = true := by
  decide +kernel

/-- With the unused string of ones the code tree of each table has no open branch. -/
theorem covers_default (ty : ValType) (l : Layer) :
    covers 16 (List.replicate (unusedOnes ty l) true :: (HTables.default.get ty l).codes.map Code.bits) = true := by
  cases ty <;> cases l <;> decide +kernel

/-- In each table a codeword parts from the unused string only at the last bit. -/
theorem exists_code_of_ones (ty : ValType) (l : Layer) :
    ∃ c ∈ (HTables.default.get ty l).codes, List.replicate (unusedOnes ty l - 1) true <+: c.bits := by
  cases ty <;> cases l <;> decide +kernel

theorem readSymbol_unusedOnes (ty : ValType) (l : Layer) :
    readSymbol HTables.default ty l (List.replicate (unusedOnes ty l) true) = .error .noMatch := by
  cases ty <;> cases l <;> decide +kernel

/-- Any bits begin with the unused string of ones, or agree with a codeword as far as both go. -/
theorem ones_prefix_or_code_comparable (ty : ValType) (l : Layer) (rest : Bits) :
    List.replicate (unusedOnes ty l) true <+: rest ∨
      ∃ c ∈ (HTables.default.get ty l).codes, c.bits <+: rest ∨ rest <+: c.bits := by
  obtain ⟨b, hb, hcomp⟩ := exists_comparable_of_covers (covers_default ty l) rest
  obtain rfl | hb := List.mem_cons.mp hb
  · obtain hones | hrest := hcomp
    · exact .inl hones
    · obtain ⟨hle, hrep⟩ := List.prefix_replicate_iff.mp hrest
      obtain heq | hlt := hle.eq_or_lt
      · exact .inl (by rw [hrep, heq])
      · obtain ⟨c, hc, hones⟩ := exists_code_of_ones ty l
        refine .inr ⟨c, hc, .inr (List.IsPrefix.trans ?_ hones)⟩
        exact List.prefix_replicate_iff.mpr ⟨Nat.le_sub_one_of_lt hlt, hrep⟩
  · obtain ⟨c, hc, rfl⟩ := List.mem_map.mp hb
    exact .inr ⟨c, hc, hcomp⟩

/-- The three things that can stand at a position of a segment: the unused string of ones, a symbol, or the proper beginning of
one. -/
theorem ones_or_symbol_or_beginning (ty : ValType) (l : Layer) (rest : Bits) :
    List.replicate (unusedOnes ty l) true <+: rest ∨
      ∃ (i : Instr) (y : Symbol), i.symbol? = some y ∧ y.type = ty ∧ y.layer = l ∧
        (encode HTables.default i <+: rest ∨
          rest <+: encode HTables.default i ∧ rest ≠ encode HTables.default i) := by
  refine (ones_prefix_or_code_comparable ty l rest).imp_right fun ⟨c, hc, hcomp⟩ => ?_
  obtain ⟨i, y, hy, hty, hl, hcomp⟩ := exists_encode_comparable hTables_default_valid hc hcomp
  refine ⟨i, y, hy, hty, hl, ?_⟩
  by_cases heq : rest = encode HTables.default i
  · exact .inl (heq ▸ List.prefix_rfl)
  · exact hcomp.imp_right fun h => ⟨h, heq⟩

/-- The unused string of ones at the head matches no codeword, whatever follows it (60_exceptions R308). -/
theorem readSymbol_eq_noMatch_of_ones {ty : ValType} {l : Layer} {rest : Bits}
    (h : List.replicate (unusedOnes ty l) true <+: rest) :
    readSymbol HTables.default ty l rest = .error .noMatch := by
  obtain ⟨tail, rfl⟩ := h
  exact readSymbol_append_of_noMatch (readSymbol_unusedOnes ty l) tail

/-- Settles O8: one of the three things stands at the position, and the reader answers each in its own way. -/
theorem whyNoSymbolIsRead : Obligations.WhyNoSymbolIsRead := by
  intro ty l rest
  have hv := hTables_default_valid
  refine ⟨⟨fun hr => ?_, readSymbol_eq_noMatch_of_ones⟩, ⟨fun hr => ?_, ?_⟩⟩
  · obtain h | ⟨i, y, hy, rfl, rfl, h | ⟨hp, hne⟩⟩ := ones_or_symbol_or_beginning ty l rest
    · exact h
    · cases hr.symm.trans (readSymbol_of_encode_prefix hv hy h)
    · cases hr.symm.trans (readSymbol_eq_underrun hv hy hp hne)
  · obtain h | ⟨i, y, hy, rfl, rfl, h | hbegin⟩ := ones_or_symbol_or_beginning ty l rest
    · cases hr.symm.trans (readSymbol_eq_noMatch_of_ones h)
    · cases hr.symm.trans (readSymbol_of_encode_prefix hv hy h)
    · exact ⟨i, y, hy, rfl, rfl, hbegin⟩
  · rintro ⟨i, y, hy, rfl, rfl, hp, hne⟩
    exact readSymbol_eq_underrun hv hy hp hne

end Sys2Proof.Machine
